-- ==== Sys2Proof/Word.lean ====
section
/-!
DEFINITION. The word types of the EQ48 and the fixed-length table.

The spec treats as bits only what crosses a port or the meter line, the meter and plant counters (whose raw
delta is taken modulo 2^32, R46), tags, masks and pin levels: those are bit vectors. Energies, costs, counts
and numbers of things are natural numbers.
-/

namespace Sys2Proof

/-- One byte of a port transaction, or the data bits of one meter line character. -/
abbrev Byte := BitVec 8

/-- A two-byte request field (R192), or the levels of the sixteen runtime lines. -/
abbrev Half := BitVec 16

/-- A four-byte request field, a tenant tag, a meter or plant count, a report mask or a selection of positions. -/
abbrev Word := BitVec 32

/-- A table of exactly `n` rows: the 48 accounts, the 64 meter slots, the 16 lines, the 32 fault positions. -/
structure Table (α : Type) (n : Nat) where
  rows : List α
  size : rows.length = n
  deriving DecidableEq, Repr

/-- The row at a position. -/
def Table.get {α : Type} {n : Nat} (t : Table α n) (i : Fin n) : α :=
  t.rows.get (i.cast t.size.symm)

/-- The table with one row replaced. -/
def Table.set {α : Type} {n : Nat} (t : Table α n) (i : Fin n) (a : α) : Table α n :=
  ⟨t.rows.set i.val a, by rw [List.length_set]; exact t.size⟩

/-- The table whose row `i` is `f i`. -/
def Table.ofFn {α : Type} {n : Nat} (f : Fin n → α) : Table α n :=
  ⟨List.ofFn f, List.length_ofFn⟩

/-- The table with the same row everywhere. -/
def Table.fill {α : Type} (n : Nat) (a : α) : Table α n :=
  ⟨List.replicate n a, List.length_replicate⟩

/-- The table with `f` applied to every row. -/
def Table.map {α β : Type} {n : Nat} (t : Table α n) (f : α → β) : Table β n :=
  ⟨t.rows.map f, by rw [List.length_map]; exact t.size⟩

/-- The table with `f` applied to one row. -/
def Table.modify {α : Type} {n : Nat} (t : Table α n) (i : Fin n) (f : α → α) : Table α n :=
  t.set i (f (t.get i))

/-- The sum of `f` over every position of a table of `n` rows. -/
def sumOver (n : Nat) (f : Fin n → Nat) : Nat :=
  ((List.finRange n).map f).sum

end Sys2Proof
end

