-- ==== Sys2Proof/Syntax.lean ====
section
/-!
DEFINITION. The commands of the EQ48: one constructor for each row of spec/opcode_table.json.

A request row carries the port it came in on and the request's body fields as the bytes of its frame (section
12.4); an event row carries what the event brings with it (the bytes of a transaction, the bits of a character,
the levels of the runtime lines). Nothing here says what a command does.
-/

namespace Sys2Proof

/-- The two ports (R139). -/
inductive Port where
  | plant
  | billing
  deriving DecidableEq, Repr

/-- The two services of the spec's conventions. -/
inductive Service where
  | heating
  | cooling
  deriving DecidableEq, Repr

/-- One thing for each service. -/
structure PerService (α : Type) where
  heating : α
  cooling : α
  deriving DecidableEq, Repr

/-- One thing for each tariff band B0 to B3 (R79). -/
structure PerBand (α : Type) where
  b0 : α
  b1 : α
  b2 : α
  b3 : α
  deriving DecidableEq, Repr

/-- The 13 bytes of a settings block as SET ACCOUNT carries them (section 12.4). -/
structure SettingsBlock where
  basis : PerService Byte
  power : PerService Half
  line : PerService Byte
  retailWeight : Half
  officeWeight : Half
  lossShare : Byte
  deriving DecidableEq, Repr

/-- The commands, in the order of the table. -/
inductive Instr where
  /-- Chip-select falls on a port (R169). -/
  | transactionStart (p : Port)
  /-- Chip-select rises; `bytes` are the whole bytes clocked in since it fell, byte 0 first, less those that a STATUS or
  FETCH of the same transaction has accounted for (R169, R171). -/
  | transactionEnd (p : Port) (bytes : List Byte)
  /-- The port's pending PORT-FRAME raise, in a grant of its own (R172). -/
  | portFrameRaise (p : Port)
  /-- STATUS served in the open transaction, `clocked` bytes clocked: byte 0 and as many after it in CODE, as many more
  once its bytes are being shifted out (R173). -/
  | status (p : Port) (clocked : Nat)
  /-- FETCH served in the open transaction, `clocked` bytes clocked, as for STATUS (R179). -/
  | fetch (p : Port) (clocked : Nat)
  /-- A stream's preparation of its next record (R180). -/
  | streamRecordPrepare (p : Port)
  | configureMeter (p : Port) (slot address service scale : Byte) (spike : Word) (late : Byte)
  | retireMeter (p : Port) (slot : Byte)
  | reReferenceMeter (p : Port) (slot : Byte)
  | postPlantReading (p : Port) (service : Byte) (count : Word)
  | reReferencePlant (p : Port) (service : Byte)
  | configurePlant (p : Port) (service scale : Byte)
  | setRuntimeLine (p : Port) (line enable polarity : Byte)
  | setNoAdvance (p : Port) (openMin advanceMin : Half) (window : Byte)
  | setBand (p : Port) (band : Byte)
  | setIntervalLength (p : Port) (minutes : Byte)
  | setTolerance (p : Port) (tolerance : Half)
  | setLineRate (p : Port) (rate : Byte)
  | mark (p : Port)
  | moveIn (p : Port) (account : Byte) (tag : Word)
  | moveOut (p : Port) (account : Byte)
  | cancelMove (p : Port) (account : Byte)
  | joinPair (p : Port) (lower : Byte)
  | splitPair (p : Port) (lower : Byte)
  | setAccount (p : Port) (account : Byte) (block : SettingsBlock)
  | assignMeter (p : Port) (slot kind number : Byte)
  | unassignMeter (p : Port) (slot : Byte)
  | setPrices (p : Port) (prices : PerService (PerBand Half))
  | closePeriod (p : Port)
  | cancelClose (p : Port)
  | takeStatement (p : Port)
  | initialiseAccounts (p : Port)
  | setReportMask (p : Port) (mask : Word)
  | setAtnEnables (p : Port) (enables : Byte)
  | ackNotices (p : Port) (selection : Word) (overflowClear : Byte)
  | readAccount (p : Port) (account : Byte)
  | streamAccounts (p : Port) (first count : Byte)
  | readClock (p : Port)
  | readMeter (p : Port) (slot : Byte)
  | readPlant (p : Port) (service : Byte)
  | readLine (p : Port)
  /-- READ RUNTIME; `levels` are the levels of RTL0 (bit 0) to RTL15 as the front end takes them then (R68). -/
  | readRuntime (p : Port) (levels : Half)
  | readTariff (p : Port)
  | readStatement (p : Port)
  | readIntervalSummary (p : Port) (age : Byte)
  | readFaultMap (p : Port)
  | readFaultEntry (p : Port) (position : Byte)
  /-- An 11-bit character on MLRX: its address flag, its data bits, whether its stop bit was high (R38). -/
  | meterLineCharacter (address : Bool) (data : Byte) (stopHigh : Bool)
  /-- More than two character times pass with no character (R41). -/
  | gapExpiry
  | drainCaptureEntry
  /-- The application of one slot's held deltas (R49); `slot` names the slot. -/
  | applyHeldDeltas (slot : Nat)
  /-- A rising edge of TICK; `levels` are the levels of RTL0 (bit 0) to RTL15 at it (R64). -/
  | tickEdge (levels : Half)
  /-- The counted TICK that brings the elapsed count to the limit (R26, R143). -/
  | timerExpiry
  | deferredBoundary
  | tickLossTimeout
  | computeRead
  | accountPost
  | closeoutVisit
  | periodStep
  | summaryWrite
  | vmainFall
  | vmainRise
  | holdExit
  | powerOnReset
  /-- VBAK crosses the retention threshold; `low` when it falls below it (R185). -/
  | backupLowChange (low : Bool)
  | warmResetAssert
  | warmResetRelease
  | vmainFallBelowRunThreshold
  deriving DecidableEq, Repr

end Sys2Proof
end

