-- ==== Sys2Proof/Decode.lean ====
section
/-!
DEFINITION. The byte layout of request frames (R192, section 12.4), both ways, and the table decoder.

The opcode table gives no row any bits, so `decodeTableWord` answers none for every word. What the part itself
decodes is byte 0 of a transaction and the length of its body (R171): `bodyLength` and `codeOwner` are those two
columns of section 12.4, `requestBytes` lays a request out as its frame, and `decodeFrame` reads a frame back.
-/

namespace Sys2Proof

/-- `k` bytes of a number, most significant first, the order of both ports (R192). -/
def bigEndian : Nat → Nat → List Byte
  | 0, _ => []
  | k + 1, n => BitVec.ofNat 8 (n >>> (8 * k)) :: bigEndian k n

/-- The 16-bit number of two bytes, most significant first (R192). -/
def half (a b : Byte) : Half := a ++ b

/-- The 32-bit number of four bytes, most significant first (R192). -/
def word (a b c d : Byte) : Word := half a b ++ half c d

/-- The request code of STATUS (section 12.4). -/
def statusCode : Byte := 0x01#8

/-- The request code of FETCH (section 12.4). -/
def fetchCode : Byte := 0x02#8

/-- The body length of each defined request code but STATUS and FETCH; none for a code that is not defined
(R171, section 12.4). -/
def bodyLength (code : Byte) : Option Nat :=
  match code.toNat with
  | 0x10 => some 9
  | 0x11 => some 1
  | 0x12 => some 1
  | 0x13 => some 5
  | 0x14 => some 1
  | 0x15 => some 2
  | 0x16 => some 3
  | 0x17 => some 5
  | 0x18 => some 1
  | 0x19 => some 1
  | 0x1A => some 2
  | 0x1B => some 1
  | 0x1C => some 0
  | 0x20 => some 5
  | 0x21 => some 1
  | 0x22 => some 1
  | 0x23 => some 1
  | 0x24 => some 1
  | 0x25 => some 14
  | 0x26 => some 3
  | 0x27 => some 1
  | 0x28 => some 16
  | 0x29 => some 0
  | 0x2A => some 0
  | 0x2B => some 0
  | 0x2C => some 0
  | 0x30 => some 4
  | 0x31 => some 1
  | 0x32 => some 5
  | 0x40 => some 1
  | 0x41 => some 2
  | 0x42 => some 0
  | 0x43 => some 1
  | 0x44 => some 1
  | 0x45 => some 0
  | 0x46 => some 0
  | 0x47 => some 0
  | 0x48 => some 0
  | 0x49 => some 1
  | 0x4A => some 0
  | 0x4B => some 1
  | _ => none

/-- The port that owns a writing request, none for a request either port may issue (R139): codes 0x10 to 0x1C
are the Plant Port's and 0x20 to 0x2C the Billing Port's. -/
def codeOwner (code : Byte) : Option Port :=
  if 0x10 ≤ code.toNat ∧ code.toNat ≤ 0x1C then some .plant
  else if 0x20 ≤ code.toNat ∧ code.toNat ≤ 0x2C then some .billing
  else none

/-- The ownership test of R140 on a request's frame. -/
def ownerAllows (p : Port) (frame : List Byte) : Bool :=
  match frame with
  | [] => false
  | code :: _ =>
    match codeOwner code with
    | some q => decide (q = p)
    | none => true

/-- A good frame: the bytes of a request of exactly its body length (R171). -/
def goodFrame (bytes : List Byte) : Bool :=
  match bytes with
  | [] => false
  | code :: body => decide (bodyLength code = some body.length)

/-- The bytes of a settings block (section 12.4). -/
def SettingsBlock.bytes (b : SettingsBlock) : List Byte :=
  b.basis.heating :: bigEndian 2 b.power.heating.toNat ++
  b.line.heating :: b.basis.cooling :: bigEndian 2 b.power.cooling.toNat ++
  b.line.cooling :: bigEndian 2 b.retailWeight.toNat ++ bigEndian 2 b.officeWeight.toNat ++ [b.lossShare]

/-- The frame of a request, its code and then its body (section 12.4); empty for a row that is not a request. -/
def Instr.requestBytes : Instr → List Byte
  | .configureMeter _ slot address service scale spike late =>
    [0x10#8, slot, address, service, scale] ++ bigEndian 4 spike.toNat ++ [late]
  | .retireMeter _ slot => [0x11#8, slot]
  | .reReferenceMeter _ slot => [0x12#8, slot]
  | .postPlantReading _ service count => [0x13#8, service] ++ bigEndian 4 count.toNat
  | .reReferencePlant _ service => [0x14#8, service]
  | .configurePlant _ service scale => [0x15#8, service, scale]
  | .setRuntimeLine _ line enable polarity => [0x16#8, line, enable, polarity]
  | .setNoAdvance _ openMin advanceMin window =>
    0x17#8 :: bigEndian 2 openMin.toNat ++ bigEndian 2 advanceMin.toNat ++ [window]
  | .setBand _ band => [0x18#8, band]
  | .setIntervalLength _ minutes => [0x19#8, minutes]
  | .setTolerance _ tolerance => 0x1A#8 :: bigEndian 2 tolerance.toNat
  | .setLineRate _ rate => [0x1B#8, rate]
  | .mark _ => [0x1C#8]
  | .moveIn _ account tag => [0x20#8, account] ++ bigEndian 4 tag.toNat
  | .moveOut _ account => [0x21#8, account]
  | .cancelMove _ account => [0x22#8, account]
  | .joinPair _ lower => [0x23#8, lower]
  | .splitPair _ lower => [0x24#8, lower]
  | .setAccount _ account block => [0x25#8, account] ++ block.bytes
  | .assignMeter _ slot kind number => [0x26#8, slot, kind, number]
  | .unassignMeter _ slot => [0x27#8, slot]
  | .setPrices _ prices =>
    0x28#8 :: bigEndian 2 prices.heating.b0.toNat ++ bigEndian 2 prices.heating.b1.toNat ++
    bigEndian 2 prices.heating.b2.toNat ++ bigEndian 2 prices.heating.b3.toNat ++
    bigEndian 2 prices.cooling.b0.toNat ++ bigEndian 2 prices.cooling.b1.toNat ++
    bigEndian 2 prices.cooling.b2.toNat ++ bigEndian 2 prices.cooling.b3.toNat
  | .closePeriod _ => [0x29#8]
  | .cancelClose _ => [0x2A#8]
  | .takeStatement _ => [0x2B#8]
  | .initialiseAccounts _ => [0x2C#8]
  | .setReportMask _ mask => 0x30#8 :: bigEndian 4 mask.toNat
  | .setAtnEnables _ enables => [0x31#8, enables]
  | .ackNotices _ selection overflowClear => 0x32#8 :: bigEndian 4 selection.toNat ++ [overflowClear]
  | .readAccount _ account => [0x40#8, account]
  | .streamAccounts _ first count => [0x41#8, first, count]
  | .readClock _ => [0x42#8]
  | .readMeter _ slot => [0x43#8, slot]
  | .readPlant _ service => [0x44#8, service]
  | .readLine _ => [0x45#8]
  | .readRuntime _ _ => [0x46#8]
  | .readTariff _ => [0x47#8]
  | .readStatement _ => [0x48#8]
  | .readIntervalSummary _ age => [0x49#8, age]
  | .readFaultMap _ => [0x4A#8]
  | .readFaultEntry _ position => [0x4B#8, position]
  | .transactionStart _ => []
  | .transactionEnd _ _ => []
  | .portFrameRaise _ => []
  | .status _ _ => []
  | .fetch _ _ => []
  | .streamRecordPrepare _ => []
  | .meterLineCharacter _ _ _ => []
  | .gapExpiry => []
  | .drainCaptureEntry => []
  | .applyHeldDeltas _ => []
  | .tickEdge _ => []
  | .timerExpiry => []
  | .deferredBoundary => []
  | .tickLossTimeout => []
  | .computeRead => []
  | .accountPost => []
  | .closeoutVisit => []
  | .periodStep => []
  | .summaryWrite => []
  | .vmainFall => []
  | .vmainRise => []
  | .holdExit => []
  | .powerOnReset => []
  | .backupLowChange _ => []
  | .warmResetAssert => []
  | .warmResetRelease => []
  | .vmainFallBelowRunThreshold => []

/-- The port a row of the table acts on, none for a row that is no port's. -/
def Instr.port : Instr → Option Port
  | .configureMeter p _ _ _ _ _ _ => some p
  | .retireMeter p _ => some p
  | .reReferenceMeter p _ => some p
  | .postPlantReading p _ _ => some p
  | .reReferencePlant p _ => some p
  | .configurePlant p _ _ => some p
  | .setRuntimeLine p _ _ _ => some p
  | .setNoAdvance p _ _ _ => some p
  | .setBand p _ => some p
  | .setIntervalLength p _ => some p
  | .setTolerance p _ => some p
  | .setLineRate p _ => some p
  | .mark p => some p
  | .moveIn p _ _ => some p
  | .moveOut p _ => some p
  | .cancelMove p _ => some p
  | .joinPair p _ => some p
  | .splitPair p _ => some p
  | .setAccount p _ _ => some p
  | .assignMeter p _ _ _ => some p
  | .unassignMeter p _ => some p
  | .setPrices p _ => some p
  | .closePeriod p => some p
  | .cancelClose p => some p
  | .takeStatement p => some p
  | .initialiseAccounts p => some p
  | .setReportMask p _ => some p
  | .setAtnEnables p _ => some p
  | .ackNotices p _ _ => some p
  | .readAccount p _ => some p
  | .streamAccounts p _ _ => some p
  | .readClock p => some p
  | .readMeter p _ => some p
  | .readPlant p _ => some p
  | .readLine p => some p
  | .readRuntime p _ => some p
  | .readTariff p => some p
  | .readStatement p => some p
  | .readIntervalSummary p _ => some p
  | .readFaultMap p => some p
  | .readFaultEntry p _ => some p
  | .transactionStart p => some p
  | .transactionEnd p _ => some p
  | .portFrameRaise p => some p
  | .status p _ => some p
  | .fetch p _ => some p
  | .streamRecordPrepare p => some p
  | .meterLineCharacter _ _ _ => none
  | .gapExpiry => none
  | .drainCaptureEntry => none
  | .applyHeldDeltas _ => none
  | .tickEdge _ => none
  | .timerExpiry => none
  | .deferredBoundary => none
  | .tickLossTimeout => none
  | .computeRead => none
  | .accountPost => none
  | .closeoutVisit => none
  | .periodStep => none
  | .summaryWrite => none
  | .vmainFall => none
  | .vmainRise => none
  | .holdExit => none
  | .powerOnReset => none
  | .backupLowChange _ => none
  | .warmResetAssert => none
  | .warmResetRelease => none
  | .vmainFallBelowRunThreshold => none

/-- The request a good frame spells on a port (section 12.4), none for bytes that are no good frame. `levels`
are the runtime line levels READ RUNTIME will meet, which no frame carries. -/
def decodeFrame (p : Port) (levels : Half) (bytes : List Byte) : Option Instr :=
  match bytes with
  | [] => none
  | code :: body =>
    match code.toNat, body with
    | 0x10, [slot, address, service, scale, a, b, c, d, late] =>
      some (.configureMeter p slot address service scale (word a b c d) late)
    | 0x11, [slot] => some (.retireMeter p slot)
    | 0x12, [slot] => some (.reReferenceMeter p slot)
    | 0x13, [service, a, b, c, d] => some (.postPlantReading p service (word a b c d))
    | 0x14, [service] => some (.reReferencePlant p service)
    | 0x15, [service, scale] => some (.configurePlant p service scale)
    | 0x16, [line, enable, polarity] => some (.setRuntimeLine p line enable polarity)
    | 0x17, [a, b, c, d, window] => some (.setNoAdvance p (half a b) (half c d) window)
    | 0x18, [band] => some (.setBand p band)
    | 0x19, [minutes] => some (.setIntervalLength p minutes)
    | 0x1A, [a, b] => some (.setTolerance p (half a b))
    | 0x1B, [rate] => some (.setLineRate p rate)
    | 0x1C, [] => some (.mark p)
    | 0x20, [account, a, b, c, d] => some (.moveIn p account (word a b c d))
    | 0x21, [account] => some (.moveOut p account)
    | 0x22, [account] => some (.cancelMove p account)
    | 0x23, [lower] => some (.joinPair p lower)
    | 0x24, [lower] => some (.splitPair p lower)
    | 0x25, [account, hb, hp1, hp0, hl, cb, cp1, cp0, cl, r1, r0, o1, o0, share] =>
      some (.setAccount p account
        { basis := ⟨hb, cb⟩, power := ⟨half hp1 hp0, half cp1 cp0⟩, line := ⟨hl, cl⟩,
          retailWeight := half r1 r0, officeWeight := half o1 o0, lossShare := share })
    | 0x26, [slot, kind, number] => some (.assignMeter p slot kind number)
    | 0x27, [slot] => some (.unassignMeter p slot)
    | 0x28, [a1, a0, b1, b0, c1, c0, d1, d0, e1, e0, f1, f0, g1, g0, h1, h0] =>
      some (.setPrices p ⟨⟨half a1 a0, half b1 b0, half c1 c0, half d1 d0⟩,
        ⟨half e1 e0, half f1 f0, half g1 g0, half h1 h0⟩⟩)
    | 0x29, [] => some (.closePeriod p)
    | 0x2A, [] => some (.cancelClose p)
    | 0x2B, [] => some (.takeStatement p)
    | 0x2C, [] => some (.initialiseAccounts p)
    | 0x30, [a, b, c, d] => some (.setReportMask p (word a b c d))
    | 0x31, [enables] => some (.setAtnEnables p enables)
    | 0x32, [a, b, c, d, clear] => some (.ackNotices p (word a b c d) clear)
    | 0x40, [account] => some (.readAccount p account)
    | 0x41, [first, count] => some (.streamAccounts p first count)
    | 0x42, [] => some (.readClock p)
    | 0x43, [slot] => some (.readMeter p slot)
    | 0x44, [service] => some (.readPlant p service)
    | 0x45, [] => some (.readLine p)
    | 0x46, [] => some (.readRuntime p levels)
    | 0x47, [] => some (.readTariff p)
    | 0x48, [] => some (.readStatement p)
    | 0x49, [age] => some (.readIntervalSummary p age)
    | 0x4A, [] => some (.readFaultMap p)
    | 0x4B, [position] => some (.readFaultEntry p position)
    | _, _ => none

/-- The command a word spells by the table's bits: the table gives no row any bits, so no word spells one. -/
def decodeTableWord (_nbits _w : Nat) : Option Instr := none

end Sys2Proof
end

