-- ==== Sys2Proof/Config.lean ====
section
/-!
DEFINITION. The fixed figures of the part and the values the spec leaves open.

Every figure is the spec's and cites its rule. The free values are uninterpreted constants: nothing in Lean can
evaluate them, so a claim that holds, holds whatever they are (log entries 5, 8 and 21).
-/

namespace Sys2Proof.Config

/-- The byte sent in a one-byte reply field for which the spec states no value: a staged length, band or tolerance
that is absent in READ CLOCK and READ TARIFF, and the number beside a target or owner kind of 0 in READ METER.
DESIGN CHOICE (log entry 8): the argument is the model's counter `State.freeSeq`, fresh for each byte. -/
opaque freeByte : Nat → Byte

/-- The levels of the sixteen runtime lines at a TICK that the row TIMER_EXPIRY stands for, which carries none. DESIGN
CHOICE (log entry 5): the argument is `State.freeSeq`. -/
opaque freeLevels : Nat → Half

/-- What a port's data-out line carries in LOCKED-OUT, none for high impedance: the spec gives the line's state while
chip-select is high and while the part is stopped, and what is shifted out in a transaction, and no more. DESIGN CHOICE
(log entry 21). -/
opaque lockedOutLine : Option (List Byte)

/-- The greatest accumulation, plant delta or estimate of one interval, 2^28 - 1 Wh (R44, R58, R104). -/
def energyCap : Nat := 268435455

/-- The greatest interval number, estimate balance or count, 2^32 - 1 (R3, R4, R23). -/
def max32 : Nat := 4294967295

/-- The greatest energy total, 2^40 - 1 Wh (R4, R110). -/
def energyTotalMax : Nat := 1099511627775

/-- The greatest cost total, 2^48 - 1 µcu (R4, R110). -/
def costTotalMax : Nat := 281474976710655

/-- A raw delta of 2^31 or more is a rollback (R46). -/
def rollbackAt : Nat := 2147483648

/-- An open-second count stops here (R65). -/
def openSecondsMax : Nat := 3600

/-- The error streak that makes a meter SUSPECT (R45). -/
def linkStreak : Nat := 8

/-- The two capture buffers (R42). -/
def captureBuffers : Nat := 2

/-- The most slots a pool holds (R55, R57). -/
def poolMax : Nat := 8

/-- The most summaries the ring holds (R136). -/
def ringMax : Nat := 16

/-- The most entries of a metered history (R3, R74). -/
def historyMax : Nat := 4

/-- The function character of a reading reply (R39). -/
def readingFunction : Byte := 0xA5#8

/-- The length character of a reading reply (R39). -/
def readingLength : Byte := 11#8

end Sys2Proof.Config
end

