-- ==== Sys2Proof/Machine/State.lean ====
section
/-!
DEFINITION. The state of the EQ48: everything the spec gives the part, as plain data, and its value after a
power-on reset.
-/

namespace Sys2Proof.Machine

/-! ## Numbers of things -/

/-- An account, 0 to 47. -/
abbrev AccountNo := Fin 48

/-- A meter slot, 0 to 63. -/
abbrev SlotNo := Fin 64

/-- A runtime line, 0 to 15. -/
abbrev LineNo := Fin 16

/-- A position of the Fault Table, 0 to 31. -/
abbrev Position := Fin 32

/-- One thing for each port. -/
structure PerPort (α : Type) where
  plant : α
  billing : α
  deriving DecidableEq, Repr

/-- The two common pools. -/
inductive Pool where
  | retail
  | office
  deriving DecidableEq, Repr

/-- One thing for each pool. -/
structure PerPool (α : Type) where
  retail : α
  office : α
  deriving DecidableEq, Repr

/-- The tariff bands (R79). -/
inductive Band where
  | b0
  | b1
  | b2
  | b3
  deriving DecidableEq, Repr

/-! ## Accounts (R1 to R4) -/

/-- The tenancy states (R1). -/
inductive Tenancy where
  | vacant
  | opening
  | occupied
  | closing
  | final
  | joined
  deriving DecidableEq, Repr

/-- A staged tenancy change (R1). -/
inductive StagedChange where
  | moveIn (tag : Word)
  | moveOut
  deriving DecidableEq, Repr

/-- The basis of an account service (R2). -/
inductive Basis where
  | metered
  | runtime
  deriving DecidableEq, Repr

/-- A set of billing settings (R2). -/
structure Settings where
  basis : PerService Basis
  power : PerService Nat
  line : PerService (Option LineNo)
  retailWeight : Nat
  officeWeight : Nat
  lossShare : Bool
  deriving DecidableEq, Repr

/-- The working state of one account service (R3). The history stands newest first. -/
structure Working where
  carry : Nat
  balance : Nat
  history : List Nat
  streak : Nat
  deriving DecidableEq, Repr

/-- The four energy totals of one service (R4). -/
structure EnergyTotals where
  metered : Nat
  estimated : Nat
  common : Nat
  loss : Nat
  deriving DecidableEq, Repr

/-- The period totals, counts and the two flags a totals reset clears (R4, R127). -/
structure Totals where
  energy : PerService EnergyTotals
  cost : PerService (PerBand Nat)
  occupied : Nat
  estimated : Nat
  interrupted : Nat
  saturated : Bool
  active : Bool
  deriving DecidableEq, Repr

/-- One account record (R1 to R4). -/
structure Account where
  tenancy : Tenancy
  staged : Option StagedChange
  tag : Option Word
  inForce : Settings
  stagedSettings : Option Settings
  meterPos : PerService (Option SlotNo)
  work : PerService Working
  totals : Totals
  firstInterval : Nat
  settledThrough : Nat
  deriving DecidableEq, Repr

/-! ## The meter side (R38 to R61) -/

/-- The service or services a meter reports (R44). -/
inductive MeterService where
  | heat
  | cool
  | both
  deriving DecidableEq, Repr

/-- Watt-hours per count (R44, R58). -/
inductive Scale where
  | x1
  | x10
  | x100
  | x1000
  deriving DecidableEq, Repr

/-- An assignment target or an accumulation owner (R44); `unassigned` is UNASSIGNED, or no owner. -/
inductive Target where
  | unassigned
  | account (a : AccountNo)
  | pool (p : Pool)
  deriving DecidableEq, Repr

/-- The meter states (R44). -/
inductive MeterState where
  | off
  | unreferenced
  | live
  | late
  | suspect
  deriving DecidableEq, Repr

/-- Held deltas with the account they are held for (R44, R49). -/
structure Held where
  energy : PerService Nat
  account : AccountNo
  deriving DecidableEq, Repr

/-- One meter slot (R44). -/
structure MeterSlot where
  address : Nat
  service : MeterService
  scale : Scale
  spikeLimit : Nat
  lateLimit : Nat
  target : Target
  state : MeterState
  reference1 : Word
  reference2 : Word
  missed : Nat
  errorStreak : Nat
  frameSeen : Bool
  accumulation : PerService Nat
  owner : Target
  held : Option Held
  deriving DecidableEq, Repr

/-- The plant slot states (R58). -/
inductive PlantState where
  | unreferenced
  | live
  | held
  deriving DecidableEq, Repr

/-- One plant slot (R58). -/
structure PlantSlot where
  scale : Scale
  reference : Word
  state : PlantState
  delta : Nat
  posted : Bool
  deriving DecidableEq, Repr

/-- The line rates (R38). -/
inductive LineRate where
  | r2400
  | r9600
  | r19200
  deriving DecidableEq, Repr

/-- The receiver (R40): in ADDRESSED, the slot and address recorded on entry and the data characters taken so
far, position 1 first. -/
inductive Receiver where
  | idle
  | addressed (slot : SlotNo) (address : Byte) (taken : List Byte)
  | discarding
  deriving DecidableEq, Repr

/-- The errors an ERROR entry reports (R42). -/
inductive FrameError where
  | framing
  | length
  | check
  | gap
  | truncated
  deriving DecidableEq, Repr

/-- A capture entry (R42). -/
inductive CaptureEntry where
  | frame (slot : SlotNo) (address : Byte) (register1 register2 : Word) (status : Byte)
  | error (slot : SlotNo) (address : Byte) (kind : FrameError)
  deriving DecidableEq, Repr

/-! ## Runtime Inputs (R62, R75) -/

/-- One runtime line (R62). -/
structure RuntimeLine where
  enabled : Bool
  activeLow : Bool
  count : Nat
  deriving DecidableEq, Repr

/-- The no-advance settings (R75). -/
structure NoAdvance where
  openMin : Nat
  advanceMin : Nat
  window : Nat
  deriving DecidableEq, Repr

/-! ## The Interval Clock (R23) -/

/-- The store states (R31). -/
inductive StoreState where
  | blank
  | aligning
  | running
  deriving DecidableEq, Repr

/-- The current-interval flags (R29). -/
structure IntervalFlags where
  stretched : Bool
  interrupted : Bool
  tickLoss : Bool
  settingsApplied : Bool
  deriving DecidableEq, Repr

/-- Eight prices, one for each service and band (R81). -/
abbrev PriceSet := PerService (PerBand Nat)

/-- The Interval Clock's state (R23). -/
structure Clock where
  store : StoreState
  interval : Nat
  elapsed : Nat
  deferred : Bool
  length : Nat
  stagedLength : Option Nat
  band : Band
  stagedBand : Option Band
  prices : PriceSet
  stagedPrices : Option PriceSet
  tolerance : Nat
  stagedTolerance : Option Nat
  flags : IntervalFlags
  tickLoss : Bool
  deriving DecidableEq, Repr

/-! ## The Settle Engine (R91 to R93, R96, R114) -/

/-- The bank's record of one account (R92). -/
structure BankAccount where
  recorded : Tenancy
  settings : Settings
  meterPos : PerService (Option SlotNo)
  deriving DecidableEq, Repr

/-- The bank's record of one meter slot (R92). -/
structure BankSlot where
  state : MeterState
  accumulation : PerService Nat
  owner : Target
  deriving DecidableEq, Repr

/-- The bank's record of one plant slot (R91). -/
structure BankPlant where
  delta : Nat
  posted : Bool
  deriving DecidableEq, Repr

/-- The settle bank (R91, R92). A line record of `none` is DISABLED (R66). -/
structure Bank where
  interval : Nat
  band : Band
  prices : PriceSet
  tolerance : Nat
  noAdvance : NoAdvance
  flags : IntervalFlags
  periodEnd : Bool
  plant : PerService BankPlant
  accounts : Table BankAccount 48
  slots : Table BankSlot 64
  lines : Table (Option Nat) 16
  deriving DecidableEq, Repr

/-- What COMPUTE reads of one account service (R96). -/
structure Reading where
  carry : Nat
  history : List Nat
  streak : Nat
  deriving DecidableEq, Repr

/-- How an account service is charged in a settle (R69, R97). -/
inductive ChargeKind where
  | metered
  | estimated
  | redirected
  deriving DecidableEq, Repr

/-- The two kinds of estimate (R70, R71). -/
inductive EstimateKind where
  | runtime
  | fallback
  deriving DecidableEq, Repr

/-- An account service's own estimate with its kind (R96). -/
structure OwnEstimate where
  kind : EstimateKind
  energy : Nat
  deriving DecidableEq, Repr

/-- The fault that the balance check records for a service (R86). -/
inductive BalanceFault where
  | excess
  | plantLate
  deriving DecidableEq, Repr

/-- The computed results of one account service (R96): the energy credited to the account for the service, with
its cost, and the account service's own results: its estimate, none where it is not estimated, and its working state. -/
structure ServiceResult where
  kind : ChargeKind
  metered : Nat
  estimated : Nat
  common : Nat
  loss : Nat
  cost : Nat
  estimate : Option OwnEstimate
  balanceAdd : Nat
  newCarry : Nat
  entry : Option Nat
  newStreak : Nat
  trip : Option SlotNo
  noBasis : Bool
  deriving DecidableEq, Repr

/-- The interval figures of one service (R98 to R102, R115), with the fault the balance check recorded (R86). -/
structure Figures where
  price : Nat
  plant : Nat
  posted : Bool
  meteredD : Nat
  estimatedD : Nat
  retail : Nat
  office : Nat
  loss : Nat
  excess : Nat
  remainder : Nat
  fault : Option BalanceFault
  deriving DecidableEq, Repr

/-- The computed results (R96); `estimateCredited` is the flag that an estimate was credited to the account. -/
structure Results where
  accounts : Table (PerService ServiceResult) 48
  estimateCredited : Table Bool 48
  figures : PerService Figures
  deriving DecidableEq, Repr

/-- The settle state with what the settle holds in it (R93, R94). COMPUTE holds the readings made so far, account
0's first; POST the post cursor; CLOSEOUT the progress record of R114, whose `next` is 48 when the visits are done. -/
inductive Settle where
  | idle
  | compute (bank : Bank) (reads : List (PerService Reading))
  | post (bank : Bank) (results : Results) (cursor : AccountNo)
  | closeout (bank : Bank) (results : Results) (next : Nat) (periodDone : Bool)
  deriving DecidableEq, Repr

/-! ## Statements and summaries (R115, R130) -/

/-- The statement kinds (R130). -/
inductive StatementKind where
  | period
  | final
  deriving DecidableEq, Repr

/-- A statement (R130). -/
structure Statement where
  account : AccountNo
  kind : StatementKind
  saturated : Bool
  containsEstimate : Bool
  tag : Word
  period : Nat
  firstInterval : Nat
  lastInterval : Nat
  occupied : Nat
  estimated : Nat
  interrupted : Nat
  energy : PerService EnergyTotals
  cost : PerService (PerBand Nat)
  deriving DecidableEq, Repr

/-- An interval summary (R115). -/
structure Summary where
  interval : Nat
  band : Band
  flags : IntervalFlags
  periodEnd : Bool
  figures : PerService Figures
  deriving DecidableEq, Repr

/-! ## The Fault Table (R154 to R162) -/

/-- The twenty-two fault classes (R154). -/
inductive FaultClass where
  | lineFrame
  | lineOverrun
  | meterRollback
  | meterSpike
  | meterAlarm
  | meterNoAdvance
  | meterLink
  | meterRetiredAssigned
  | plantRollback
  | plantSpike
  | plantLate
  | balanceExcess
  | noBasis
  | accumSaturated
  | portFrame
  | settleResumed
  | storeLost
  | supplyHold
  | meterLate
  | meterSuspect
  | plantHeld
  | tickLoss
  deriving DecidableEq, Repr

/-- A fault's subject: a subject kind with its number (R154). -/
inductive Subject where
  | meter (m : SlotNo)
  | plant (sv : Service)
  | account (a : AccountNo)
  | line
  | port (p : Port)
  | clock
  | supply
  | store
  deriving DecidableEq, Repr

/-- A fault entry (R155). -/
structure FaultEntry where
  seq : Nat
  cls : FaultClass
  subject : Subject
  first : Nat
  last : Nat
  occurrences : Nat
  active : Bool
  notice : PerPort Bool
  deriving DecidableEq, Repr

/-- The Fault Table and both ports' report masks (R155, R161). -/
structure Faults where
  entries : Table (Option FaultEntry) 32
  counter : Nat
  cursor : Position
  overflow : PerPort Bool
  mask : PerPort Word
  deriving DecidableEq, Repr

/-! ## The ports (R169 to R184) -/

/-- The result codes (R177, R192). -/
inductive Result where
  | ok
  | pending
  | busy
  | notOwner
  | badIndex
  | badValue
  | wrongState
  | duplicate
  | statementsPending
  | empty
  | atEnd
  deriving DecidableEq, Repr

/-- What is served at the port in SHIFT-OUT: STATUS with the SETTLED flag it reports (R174), or FETCH, of a READY reply or
not (R179). -/
inductive Serving where
  | status (settled : Bool)
  | fetch (ready : Bool)
  deriving DecidableEq, Repr

/-- The transaction states (R169). SHIFT-OUT holds what is served and the bytes of it still to be shifted out. -/
inductive Transaction where
  | idle
  | code
  | body
  | shiftOut (serving : Serving) (rest : List Byte)
  | lockedOut
  deriving DecidableEq, Repr

/-- The request slot (R175): empty, the frame of the request in flight, or a stream's preparation. -/
inductive RequestSlot where
  | empty
  | request (frame : List Byte)
  | preparing
  deriving DecidableEq, Repr

/-- The reply buffer with its fetched flag (R178). -/
inductive ReplyBuffer where
  | empty
  | pending
  | ready (result : Result) (data : List Byte) (fetched : Bool)
  deriving DecidableEq, Repr

/-- An active stream: the next account to prepare and the number of records still to prepare (R180). -/
structure Stream where
  next : Nat
  left : Nat
  deriving DecidableEq, Repr

/-- An attention enable set (R167). -/
structure Enables where
  notice : Bool
  reply : Bool
  settled : Bool
  statement : Bool
  deriving DecidableEq, Repr

/-- One port (R169 to R184). `selected` is its chip-select pin (true when low); `statusByte` is latched at the
falling edge (R170); `dataOut` keeps the bytes shifted out after byte 0 in the newest transaction. -/
structure PortState where
  selected : Bool
  transaction : Transaction
  statusByte : Byte
  dataOut : List Byte
  slot : RequestSlot
  reply : ReplyBuffer
  stream : Option Stream
  reject : Bool
  frame : Bool
  settled : Bool
  framePending : Bool
  enables : Enables
  deriving DecidableEq, Repr

/-! ## The Store Arbiter and the Supply Supervisor (R143, R185) -/

/-- The four requesters (R143). -/
inductive Requester where
  | drain
  | settle
  | port (p : Port)
  deriving DecidableEq, Repr

/-- The arbiter (R143, R144): the grant in progress, `none` when FREE; the yield set; the port whose turn comes
before the other port is granted again. The waiting set is worked out from the rest of the state. -/
structure Arbiter where
  granted : Option Requester
  yieldSet : List Requester
  turn : Option Port
  deriving DecidableEq, Repr

/-- The supply states (R185). -/
inductive Supply where
  | run
  | hold
  | off
  deriving DecidableEq, Repr

/-- Where VMAIN stands against the hold and the run threshold (R185). -/
inductive MainLevel where
  | belowHold
  | between
  | aboveRun
  deriving DecidableEq, Repr

/-- The Supply Supervisor (R185 to R189) with the pins it watches: `resetHigh` is RESETn, `backupLow` the
BACKUP-LOW flag, `recovery` that the recovery test runs, `holdExits` the exits from HOLD whose SUPPLY-HOLD raise
waits for the restart, `resetSeen` that RESETn was low since the last restart. -/
structure Supervisor where
  supply : Supply
  main : MainLevel
  recovery : Bool
  backupLow : Bool
  resetHigh : Bool
  holdExits : Nat
  resetSeen : Bool
  deriving DecidableEq, Repr

/-- The whole machine. `linePins` are the levels the runtime front end holds, none while it is stopped and until it takes
the lines up again (R62). -/
structure State where
  accounts : Table Account 48
  joinedNote : Table Bool 48
  meters : Table MeterSlot 64
  pools : PerPool (List SlotNo)
  plant : PerService PlantSlot
  lines : Table RuntimeLine 16
  noAdvance : NoAdvance
  lineRate : LineRate
  clock : Clock
  settle : Settle
  period : Nat
  stagedClose : Bool
  queue : List Statement
  ring : List Summary
  faults : Faults
  ports : PerPort PortState
  receiver : Receiver
  capture : List CaptureEntry
  overruns : Nat
  arbiter : Arbiter
  supervisor : Supervisor
  linePins : Option Half
  freeSeq : Nat
  pending : List Instr
  deriving DecidableEq, Repr

/-- The reasons a step may stop with a fault. There are none: the part reports everything it meets through result
codes, flags and its own Fault Table (R154, R177), and no command stops it. -/
inductive Fault where
  deriving DecidableEq, Repr

/-- The reasons a command may have no meaning. -/
inductive Refusal where
  /-- Raised by `exec` for a row of the table that has no meaning yet; safe, since nothing is claimed of it. -/
  | notModelled (mnemonic : String)
  deriving DecidableEq, Repr

/-! ## Power-on values (R190 and the rules it gathers) -/

/-- The in-force settings after power-on reset (R21). -/
def Settings.initial : Settings :=
  { basis := ⟨.metered, .metered⟩, power := ⟨0, 0⟩, line := ⟨none, none⟩, retailWeight := 0, officeWeight := 0,
    lossShare := false }

/-- Working state at its reset value (R12, R21). -/
def Working.zero : Working := { carry := 0, balance := 0, history := [], streak := 0 }

/-- Totals, counts and flags at their reset value (R4, R21). -/
def Totals.zero : Totals :=
  { energy := ⟨⟨0, 0, 0, 0⟩, ⟨0, 0, 0, 0⟩⟩, cost := ⟨⟨0, 0, 0, 0⟩, ⟨0, 0, 0, 0⟩⟩, occupied := 0, estimated := 0,
    interrupted := 0, saturated := false, active := false }

/-- A tenant account after power-on reset (R21). -/
def Account.initial : Account :=
  { tenancy := .vacant, staged := none, tag := none, inForce := .initial, stagedSettings := none,
    meterPos := ⟨none, none⟩, work := ⟨.zero, .zero⟩, totals := .zero, firstInterval := 0, settledThrough := 0 }

/-- The house account after power-on reset (R5, R21). -/
def Account.house : Account := { Account.initial with tenancy := .occupied, tag := some 0#32 }

/-- A meter slot after power-on reset (R44). -/
def MeterSlot.initial : MeterSlot :=
  { address := 1, service := .heat, scale := .x1, spikeLimit := 0, lateLimit := 2, target := .unassigned,
    state := .off, reference1 := 0#32, reference2 := 0#32, missed := 0, errorStreak := 0, frameSeen := false,
    accumulation := ⟨0, 0⟩, owner := .unassigned, held := none }

/-- A plant slot after power-on reset (R58). -/
def PlantSlot.initial : PlantSlot :=
  { scale := .x1, reference := 0#32, state := .unreferenced, delta := 0, posted := false }

/-- A runtime line after power-on reset (R62). -/
def RuntimeLine.initial : RuntimeLine := { enabled := false, activeLow := false, count := 0 }

/-- The four flags clear (R23). -/
def IntervalFlags.clear : IntervalFlags :=
  { stretched := false, interrupted := false, tickLoss := false, settingsApplied := false }

/-- The Interval Clock after power-on reset (R23). -/
def Clock.initial : Clock :=
  { store := .blank, interval := 0, elapsed := 0, deferred := false, length := 15, stagedLength := none, band := .b0,
    stagedBand := none, prices := ⟨⟨0, 0, 0, 0⟩, ⟨0, 0, 0, 0⟩⟩, stagedPrices := none, tolerance := 50,
    stagedTolerance := none, flags := .clear, tickLoss := false }

/-- The Fault Table after power-on reset, its STORE-LOST entry made (R156). -/
def Faults.initial : Faults :=
  { entries := (Table.fill 32 none).set 0
      (some { seq := 0, cls := .storeLost, subject := .store, first := 0, last := 0, occurrences := 1, active := false,
              notice := ⟨true, true⟩ }),
    counter := 1, cursor := 1, overflow := ⟨false, false⟩, mask := ⟨0#32, 0#32⟩ }

/-- A port after power-on reset with its chip-select high (R184). The latched status byte and the data-out bytes
have no reset value in the spec; they are read only in a transaction that has set them (log entry 9). -/
def PortState.initial : PortState :=
  { selected := false, transaction := .idle, statusByte := 0#8, dataOut := [], slot := .empty, reply := .empty,
    stream := none, reject := false, frame := false, settled := false, framePending := false,
    enables := { notice := true, reply := true, settled := false, statement := false } }

/-- The arbiter after power-on reset (R143). -/
def Arbiter.initial : Arbiter := { granted := none, yieldSet := [], turn := none }

/-- The supervisor once the recovery test has expired in OFF (R190). VBAK at or above the retention threshold and
RESETn high are the pins' levels the model takes at reset (log entry 9). -/
def Supervisor.initial : Supervisor :=
  { supply := .run, main := .aboveRun, recovery := false, backupLow := false, resetHigh := true, holdExits := 0,
    resetSeen := false }

/-- The machine right after a power-on reset (R190), nothing waiting in its command queue. -/
def State.reset : State :=
  { accounts := (Table.fill 48 Account.initial).set 0 Account.house
    joinedNote := Table.fill 48 false
    meters := Table.fill 64 MeterSlot.initial
    pools := ⟨[], []⟩
    plant := ⟨PlantSlot.initial, PlantSlot.initial⟩
    lines := Table.fill 16 RuntimeLine.initial
    noAdvance := { openMin := 300, advanceMin := 100, window := 3 }
    lineRate := .r9600
    clock := Clock.initial
    settle := .idle
    period := 1
    stagedClose := false
    queue := []
    ring := []
    faults := Faults.initial
    ports := ⟨PortState.initial, PortState.initial⟩
    receiver := .idle
    capture := []
    overruns := 0
    arbiter := Arbiter.initial
    supervisor := Supervisor.initial
    linePins := none
    freeSeq := 0
    pending := [] }

end Sys2Proof.Machine
end

