-- ==== Sys2Proof/Machine/Operands.lean ====
section
/-!
DEFINITION. What a request's fields name (R192), the codes of the enumerated values, and the readers and writers of
the small per-service, per-band, per-pool and per-port records.
-/

namespace Sys2Proof

/-- The thing of one service. -/
def PerService.get {α : Type} (x : PerService α) : Service → α
  | .heating => x.heating
  | .cooling => x.cooling

/-- With the thing of one service replaced. -/
def PerService.set {α : Type} (x : PerService α) : Service → α → PerService α
  | .heating, a => { x with heating := a }
  | .cooling, a => { x with cooling := a }

/-- The pairing of what `f` gives for each service. -/
def PerService.ofFn {α : Type} (f : Service → α) : PerService α := ⟨f .heating, f .cooling⟩

/-- `f` applied to both. -/
def PerService.map {α β : Type} (x : PerService α) (f : α → β) : PerService β := ⟨f x.heating, f x.cooling⟩

/-- The thing of one band. -/
def PerBand.get {α : Type} (x : PerBand α) : Machine.Band → α
  | .b0 => x.b0
  | .b1 => x.b1
  | .b2 => x.b2
  | .b3 => x.b3

/-- With the thing of one band replaced. -/
def PerBand.set {α : Type} (x : PerBand α) : Machine.Band → α → PerBand α
  | .b0, a => { x with b0 := a }
  | .b1, a => { x with b1 := a }
  | .b2, a => { x with b2 := a }
  | .b3, a => { x with b3 := a }

/-- The other port. -/
def Port.other : Port → Port
  | .plant => .billing
  | .billing => .plant

end Sys2Proof

namespace Sys2Proof.Machine

/-- The thing of one port. -/
def PerPort.get {α : Type} (x : PerPort α) : Port → α
  | .plant => x.plant
  | .billing => x.billing

/-- With the thing of one port replaced. -/
def PerPort.set {α : Type} (x : PerPort α) : Port → α → PerPort α
  | .plant, a => { x with plant := a }
  | .billing, a => { x with billing := a }

/-- The pairing of what `f` gives for each port. -/
def PerPort.ofFn {α : Type} (f : Port → α) : PerPort α := ⟨f .plant, f .billing⟩

/-- The thing of one pool. -/
def PerPool.get {α : Type} (x : PerPool α) : Pool → α
  | .retail => x.retail
  | .office => x.office

/-- With the thing of one pool replaced. -/
def PerPool.set {α : Type} (x : PerPool α) : Pool → α → PerPool α
  | .retail, a => { x with retail := a }
  | .office, a => { x with office := a }

/-! ## Index fields: none where the number is out of range (BAD-INDEX) -/

/-- The account a byte names. -/
def accountOf (b : Byte) : Option AccountNo :=
  if h : b.toNat < 48 then some ⟨b.toNat, h⟩ else none

/-- The meter slot a byte names. -/
def slotOf (b : Byte) : Option SlotNo :=
  if h : b.toNat < 64 then some ⟨b.toNat, h⟩ else none

/-- The runtime line a byte names. -/
def lineOf (b : Byte) : Option LineNo :=
  if h : b.toNat < 16 then some ⟨b.toNat, h⟩ else none

/-- The Fault Table position a byte names. -/
def positionOf (b : Byte) : Option Position :=
  if h : b.toNat < 32 then some ⟨b.toNat, h⟩ else none

/-- The runtime line field of a settings block: a line, or 0xFF for none (R14, R192). -/
def lineField (b : Byte) : Option (Option LineNo) :=
  if b = 0xFF#8 then some none else (lineOf b).map some

/-- The upper account of the pair whose lower account is given (R17): the pairs are (1,2) to (45,46). -/
def upperOf (a : AccountNo) : Option AccountNo :=
  if h : a.val % 2 = 1 ∧ a.val < 47 then some ⟨a.val + 1, by omega⟩ else none

/-- The lower account of the pair whose upper account is given (R17). -/
def lowerOf (a : AccountNo) : Option AccountNo :=
  if a.val % 2 = 0 ∧ 2 ≤ a.val ∧ a.val ≤ 46 then some ⟨a.val - 1, by omega⟩ else none

/-! ## Code fields: none where the code is undefined (BAD-VALUE) -/

/-- The service a code names. -/
def serviceOf (b : Byte) : Option Service :=
  if b = 0#8 then some .heating else if b = 1#8 then some .cooling else none

/-- The meter service a code names. -/
def meterServiceOf (b : Byte) : Option MeterService :=
  if b = 0#8 then some .heat else if b = 1#8 then some .cool else if b = 2#8 then some .both else none

/-- The scale a code names. -/
def scaleOf (b : Byte) : Option Scale :=
  if b = 0#8 then some .x1 else if b = 1#8 then some .x10 else if b = 2#8 then some .x100
  else if b = 3#8 then some .x1000 else none

/-- The basis a code names. -/
def basisOf (b : Byte) : Option Basis :=
  if b = 0#8 then some .metered else if b = 1#8 then some .runtime else none

/-- The band a code names. -/
def bandOf (b : Byte) : Option Band :=
  if b = 0#8 then some .b0 else if b = 1#8 then some .b1 else if b = 2#8 then some .b2
  else if b = 3#8 then some .b3 else none

/-- The line rate a code names. -/
def rateOf (b : Byte) : Option LineRate :=
  if b = 0#8 then some .r2400 else if b = 1#8 then some .r9600 else if b = 2#8 then some .r19200 else none

/-- The pool a code names. -/
def poolOf (b : Byte) : Option Pool :=
  if b = 0#8 then some .retail else if b = 1#8 then some .office else none

/-- A flag of a request body: 0 clears it and any other value sets it (R192). -/
def flagOf (b : Byte) : Bool := decide (b ≠ 0#8)

/-- A numeric setting clamped to its range. -/
def clamp (lo hi n : Nat) : Nat := if n < lo then lo else if hi < n then hi else n

/-- A sum that stops at a maximum. -/
def addSat (max a b : Nat) : Nat := if max < a + b then max else a + b

/-- Watt-hours per count. -/
def Scale.factor : Scale → Nat
  | .x1 => 1
  | .x10 => 10
  | .x100 => 100
  | .x1000 => 1000

/-- The meter reports this service (R44). -/
def MeterService.credits : MeterService → Service → Bool
  | .heat, .heating => true
  | .heat, .cooling => false
  | .cool, .heating => false
  | .cool, .cooling => true
  | .both, _ => true

/-! ## The codes replies carry (R192) -/

/-- Result codes. -/
def Result.code : Result → Byte
  | .ok => 0x00#8
  | .pending => 0x01#8
  | .busy => 0x02#8
  | .notOwner => 0x03#8
  | .badIndex => 0x04#8
  | .badValue => 0x05#8
  | .wrongState => 0x06#8
  | .duplicate => 0x07#8
  | .statementsPending => 0x08#8
  | .empty => 0x09#8
  | .atEnd => 0x0A#8

/-- Service codes. -/
def serviceCode : Service → Byte
  | .heating => 0#8
  | .cooling => 1#8

/-- Meter service codes. -/
def MeterService.code : MeterService → Byte
  | .heat => 0#8
  | .cool => 1#8
  | .both => 2#8

/-- Scale codes. -/
def Scale.code : Scale → Byte
  | .x1 => 0#8
  | .x10 => 1#8
  | .x100 => 2#8
  | .x1000 => 3#8

/-- Basis codes. -/
def Basis.code : Basis → Byte
  | .metered => 0#8
  | .runtime => 1#8

/-- Band codes. -/
def Band.code : Band → Byte
  | .b0 => 0#8
  | .b1 => 1#8
  | .b2 => 2#8
  | .b3 => 3#8

/-- Line rate codes. -/
def LineRate.code : LineRate → Byte
  | .r2400 => 0#8
  | .r9600 => 1#8
  | .r19200 => 2#8

/-- Pool codes. -/
def Pool.code : Pool → Byte
  | .retail => 0#8
  | .office => 1#8

/-- Target and owner kind codes. -/
def Target.kindCode : Target → Byte
  | .unassigned => 0#8
  | .account _ => 1#8
  | .pool _ => 2#8

/-- Tenancy state codes. -/
def Tenancy.code : Tenancy → Byte
  | .vacant => 0#8
  | .opening => 1#8
  | .occupied => 2#8
  | .closing => 3#8
  | .final => 4#8
  | .joined => 5#8

/-- Staged change codes. -/
def stagedCode : Option StagedChange → Byte
  | none => 0#8
  | some (.moveIn _) => 1#8
  | some .moveOut => 2#8

/-- Meter state codes. -/
def MeterState.code : MeterState → Byte
  | .off => 0#8
  | .unreferenced => 1#8
  | .live => 2#8
  | .late => 3#8
  | .suspect => 4#8

/-- Plant state codes. -/
def PlantState.code : PlantState → Byte
  | .unreferenced => 0#8
  | .live => 1#8
  | .held => 2#8

/-- Receiver state codes. -/
def Receiver.code : Receiver → Byte
  | .idle => 0#8
  | .addressed _ _ _ => 1#8
  | .discarding => 2#8

/-- Settle state codes. -/
def Settle.code : Settle → Byte
  | .idle => 0#8
  | .compute _ _ => 1#8
  | .post _ _ _ => 2#8
  | .closeout _ _ _ _ => 3#8

/-- Store state codes. -/
def StoreState.code : StoreState → Byte
  | .blank => 0#8
  | .aligning => 1#8
  | .running => 2#8

/-- Supply state codes. -/
def Supply.code : Supply → Byte
  | .run => 0#8
  | .hold => 1#8
  | .off => 2#8

/-- Statement kind codes. -/
def StatementKind.code : StatementKind → Byte
  | .period => 0#8
  | .final => 1#8

/-- Fault class codes (R154). -/
def FaultClass.code : FaultClass → Fin 32
  | .lineFrame => 0
  | .lineOverrun => 1
  | .meterRollback => 2
  | .meterSpike => 3
  | .meterAlarm => 4
  | .meterNoAdvance => 5
  | .meterLink => 6
  | .meterRetiredAssigned => 7
  | .plantRollback => 8
  | .plantSpike => 9
  | .plantLate => 10
  | .balanceExcess => 11
  | .noBasis => 12
  | .accumSaturated => 13
  | .portFrame => 14
  | .settleResumed => 15
  | .storeLost => 16
  | .supplyHold => 17
  | .meterLate => 18
  | .meterSuspect => 19
  | .plantHeld => 20
  | .tickLoss => 21

/-- The CONDITION classes; every other class is an EVENT class (R154). -/
def FaultClass.isCondition : FaultClass → Bool
  | .meterLate => true
  | .meterSuspect => true
  | .plantHeld => true
  | .tickLoss => true
  | .lineFrame => false
  | .lineOverrun => false
  | .meterRollback => false
  | .meterSpike => false
  | .meterAlarm => false
  | .meterNoAdvance => false
  | .meterLink => false
  | .meterRetiredAssigned => false
  | .plantRollback => false
  | .plantSpike => false
  | .plantLate => false
  | .balanceExcess => false
  | .noBasis => false
  | .accumSaturated => false
  | .portFrame => false
  | .settleResumed => false
  | .storeLost => false
  | .supplyHold => false

/-- Subject kind codes. -/
def Subject.kindCode : Subject → Byte
  | .meter _ => 0#8
  | .plant _ => 1#8
  | .account _ => 2#8
  | .line => 3#8
  | .port _ => 4#8
  | .clock => 5#8
  | .supply => 6#8
  | .store => 7#8

/-- Subject numbers (R154). -/
def Subject.number : Subject → Byte
  | .meter m => BitVec.ofNat 8 m.val
  | .plant .heating => 0#8
  | .plant .cooling => 1#8
  | .account a => BitVec.ofNat 8 a.val
  | .line => 0#8
  | .port .plant => 0#8
  | .port .billing => 1#8
  | .clock => 0#8
  | .supply => 0#8
  | .store => 0#8

/-! ## Whole operands -/

/-- The billing settings a settings block spells once its basis and line fields are known to be good (R14). -/
def settingsOf (b : SettingsBlock) (basis : PerService Basis) (line : PerService (Option LineNo)) :
    Settings :=
  { basis := basis, power := b.power.map BitVec.toNat, line := line, retailWeight := b.retailWeight.toNat,
    officeWeight := b.officeWeight.toNat, lossShare := flagOf b.lossShare }

/-- The eight prices of a SET PRICES body as numbers (R81, R82). -/
def pricesOf (x : PerService (PerBand Half)) : PriceSet :=
  x.map fun b => ⟨b.b0.toNat, b.b1.toNat, b.b2.toNat, b.b3.toNat⟩

/-- The target ASSIGN METER names, or the result that refuses it (R55): an account number out of range is BAD-INDEX,
a kind or pool code outside its values BAD-VALUE. -/
def targetOf (kind number : Byte) : Except Result Target :=
  if kind = 1#8 then
    match accountOf number with
    | some a => .ok (.account a)
    | none => .error .badIndex
  else if kind = 2#8 then
    match poolOf number with
    | some p => .ok (.pool p)
    | none => .error .badValue
  else .error .badValue

/-- The enable set a SET ATN ENABLES body spells: bits 3 to 0 are NOTICE, REPLY, SETTLED, STATEMENT (R192), and on
the Plant Port STATEMENT is taken as clear (R167). -/
def enablesOf (p : Port) (b : Byte) : Enables :=
  { notice := b.getLsbD 3, reply := b.getLsbD 2, settled := b.getLsbD 1,
    statement := b.getLsbD 0 && decide (p = .billing) }

/-- A report mask as stored: bits 22 to 31 are always 0 (R161). -/
def maskOf (m : Word) : Word := m &&& 0x003FFFFF#32

end Sys2Proof.Machine
end

