-- ==== Sys2Proof/Machine/FaultTable.lean ====
section
/-!
DEFINITION. The Fault Table: raising a fault, ending a condition, acknowledging notices (R154 to R165).
-/

namespace Sys2Proof.Machine

/-- The entry is of this class and subject. -/
def FaultEntry.isFor (e : FaultEntry) (c : FaultClass) (sub : Subject) : Bool :=
  decide (e.cls = c) && decide (e.subject = sub)

/-- The position of the entry of a class and subject. -/
def Faults.find (f : Faults) (c : FaultClass) (sub : Subject) : Option Position :=
  (List.finRange 32).find? fun i => (f.entries.get i).any fun e => e.isFor c sub

/-- The port's report mask masks the class (R161). -/
def Faults.masked (f : Faults) (p : Port) (c : FaultClass) : Bool :=
  (f.mask.get p).getLsbD c.code.val

/-- The first free position counting upward from the allocation cursor, wrapping from 31 to 0 (R158). -/
def Faults.freePosition (f : Faults) : Option Position :=
  ((List.finRange 32).map fun i => f.cursor + i).find? fun i => (f.entries.get i).isNone

/-- An entry in the table holds this sequence number. -/
def Faults.holdsSeq (f : Faults) (n : Nat) : Bool :=
  (List.finRange 32).any fun i => (f.entries.get i).any fun e => decide (e.seq = n)

/-- The first sequence number from `n` on, wrapping from 65,535 to 0, that no held entry has (R158); one of any
33 numbers in a row is free. -/
def Faults.freshSeq (f : Faults) : Nat → Nat → Nat
  | 0, n => n
  | fuel + 1, n => if f.holdsSeq n then f.freshSeq fuel ((n + 1) % 65536) else n

/-- The ports whose mask leaves the class unmasked. -/
def Faults.wants (f : Faults) (c : FaultClass) : PerPort Bool := PerPort.ofFn fun p => !f.masked p c

/-- A new entry at a free position (R158). -/
def Faults.insert (f : Faults) (i : Position) (c : FaultClass) (sub : Subject) (interval : Nat) : Faults :=
  let seq := f.freshSeq 32 f.counter
  { f with
    entries := f.entries.set i (some { seq := seq, cls := c, subject := sub, first := interval, last := interval,
                                       occurrences := 1, active := c.isCondition, notice := f.wants c })
    counter := (seq + 1) % 65536
    cursor := i + 1 }

/-- A raise of a class and subject that has an entry (R160). -/
def FaultEntry.recur (e : FaultEntry) (wants : PerPort Bool) (interval : Nat) : FaultEntry :=
  let again := { e with occurrences := addSat 255 e.occurrences 1, last := interval }
  if e.cls.isCondition && e.active then again
  else { again with
    active := e.cls.isCondition
    notice := PerPort.ofFn fun p => e.notice.get p || wants.get p }

/-- A raise of a fault recording an interval number (R157 to R160): a recurrence in an existing entry, or a new
entry, or OVERFLOW when the table is full. -/
def Faults.raise (f : Faults) (c : FaultClass) (sub : Subject) (interval : Nat) : Faults :=
  match f.find c sub with
  | some i => { f with entries := f.entries.modify i (Option.map fun e => e.recur (f.wants c) interval) }
  | none =>
    if f.masked .plant c && f.masked .billing c then f
    else
      match f.freePosition with
      | some i => f.insert i c sub interval
      | none => { f with overflow := PerPort.ofFn fun p => f.overflow.get p || (f.wants c).get p }

/-- An entry that stays, none when it is freed: no notice set and ACTIVE clear (R164). -/
def FaultEntry.kept (e : FaultEntry) : Option FaultEntry :=
  if e.notice.plant || e.notice.billing || e.active then some e else none

/-- The end of a condition (R160): the entry's ACTIVE flag is cleared and the entry freed when no notice is set. -/
def Faults.endCondition (f : Faults) (c : FaultClass) (sub : Subject) : Faults :=
  match f.find c sub with
  | some i =>
    { f with entries := f.entries.modify i fun o => o.bind fun e =>
        if e.active then { e with active := false }.kept else some e }
  | none => f

/-- The position holds an entry with the port's notice set. -/
def Faults.noticeAt (f : Faults) (p : Port) (i : Position) : Bool :=
  (f.entries.get i).any fun e => e.notice.get p

/-- The positions whose notice an acknowledgement clears (R163). -/
def Faults.acked (f : Faults) (p : Port) (selection : Word) (i : Position) : Bool :=
  selection.getLsbD i.val && f.noticeAt p i

/-- The entry at an acknowledged position after the acknowledgement (R163, R164). -/
def FaultEntry.ack (e : FaultEntry) (p : Port) : Option FaultEntry :=
  { e with notice := e.notice.set p false }.kept

/-- ACK NOTICES on the table (R163). -/
def Faults.ack (f : Faults) (p : Port) (selection : Word) (overflowClear : Bool) : Faults :=
  { f with
    entries := Table.ofFn fun i =>
      if f.acked p selection i then (f.entries.get i).bind fun e => e.ack p else f.entries.get i
    overflow := if overflowClear then f.overflow.set p false else f.overflow }

/-- The port's notice count (R162). -/
def Faults.noticeCount (f : Faults) (p : Port) : Nat :=
  ((List.finRange 32).filter fun i => f.noticeAt p i).length

/-- How many places a sequence number lies behind the counter, a number equal to it lying 65,536 behind (R162). -/
def Faults.behind (f : Faults) (seq : Nat) : Nat :=
  let d := (f.counter + 65536 - seq) % 65536
  if d = 0 then 65536 else d

/-- How far behind the counter the entry at a position lies, 0 where there is none. -/
def Faults.behindAt (f : Faults) (i : Position) : Nat :=
  match f.entries.get i with
  | some e => f.behind e.seq
  | none => 0

/-- Of two positions the one whose entry lies further behind the counter, the earlier position on a tie. -/
def Faults.lower (f : Faults) (best : Option Position) (i : Position) : Option Position :=
  match best with
  | some j => if f.behindAt j < f.behindAt i then some i else some j
  | none => some i

/-- The port's first-notice pointer (R162). -/
def Faults.firstNotice (f : Faults) (p : Port) : Option Position :=
  ((List.finRange 32).filter fun i => f.noticeAt p i).foldl f.lower none

/-- A 32-bit map of the positions `q` holds of, bit p for position p. -/
def positionMap (q : Position → Bool) : Word :=
  (List.finRange 32).foldl (fun m i => if q i then m ||| (1#32 <<< i.val) else m) 0#32

/-- Occupied positions. -/
def Faults.occupied (f : Faults) (i : Position) : Bool := (f.entries.get i).isSome

/-- Positions whose entry has ACTIVE set. -/
def Faults.activeAt (f : Faults) (i : Position) : Bool := (f.entries.get i).any fun e => e.active

/-- A raise on the machine's Fault Table. -/
def State.raise (s : State) (c : FaultClass) (sub : Subject) (interval : Nat) : State :=
  { s with faults := s.faults.raise c sub interval }

/-- The end of a condition on the machine's Fault Table. -/
def State.endCondition (s : State) (c : FaultClass) (sub : Subject) : State :=
  { s with faults := s.faults.endCondition c sub }

/-- A raise made `n` times. -/
def State.raiseTimes (s : State) (n : Nat) (c : FaultClass) (sub : Subject) (interval : Nat) : State :=
  match n with
  | 0 => s
  | k + 1 => (s.raise c sub interval).raiseTimes k c sub interval

end Sys2Proof.Machine
end

