-- ==== Sys2Proof/Machine/Flags.lean ====
section
/-!
DEFINITION. The flags and outputs worked out from the state: when the interfaces run, the status byte (R170), the
attention sources and lines (R166, R168), the data-out lines (R169, R183), and the extended bytes of the status image
(R173).

The status image, the notice counts, the first-notice pointers and the attention lines are functions of the state:
the spec has each of them follow the state at the end of every operation and port event (R162, R168, R173), so they
are not stored a second time (log entry 4).
-/

namespace Sys2Proof.Machine

/-- The interfaces run: the supply is RUN and RESETn is high. -/
def State.interfacesRun (s : State) : Bool :=
  decide (s.supervisor.supply = .run) && s.supervisor.resetHigh

/-- A settle is in flight, suspension and deferral included (R93). -/
def State.settleInFlight (s : State) : Bool :=
  match s.settle with
  | .idle => false
  | .compute _ _ => true
  | .post _ _ _ => true
  | .closeout _ _ _ _ => true

/-- The bank of the settle in flight. -/
def State.bank (s : State) : Option Bank :=
  match s.settle with
  | .idle => none
  | .compute b _ => some b
  | .post b _ _ => some b
  | .closeout b _ _ _ => some b

/-- TICK is counted: interfaces running and the store ALIGNING or RUNNING (R24). -/
def State.ticksCount (s : State) : Bool :=
  s.interfacesRun && decide (s.clock.store ≠ .blank)

/-- The limit of the running interval, in seconds (R23). -/
def Clock.limit (c : Clock) : Nat := c.length * 60

/-- The half-length of the running interval, in seconds (R28). -/
def Clock.halfLength (c : Clock) : Nat := c.length * 30

/-- A deferred boundary whose settle has reached IDLE (R26, R95): the Interval Clock operation that comes ahead of every
requester (R35, R143). -/
def State.deferredDue (s : State) : Bool :=
  decide (s.clock.store = .running) && s.clock.deferred && !s.settleInFlight

/-- The port's reply buffer is READY. -/
def PortState.replyReady (q : PortState) : Bool :=
  match q.reply with
  | .ready _ _ _ => true
  | .pending => false
  | .empty => false

/-- The REPLY source (R166, R178). -/
def PortState.replyWaiting (q : PortState) : Bool :=
  match q.reply with
  | .ready _ _ fetched => !fetched
  | .pending => false
  | .empty => false

/-- One bit of a byte. -/
def bit (b : Bool) (i : Nat) : Byte := if b then 1#8 <<< i else 0#8

/-- The status byte of a port (R170, section 12.3). -/
def State.statusByteOf (s : State) (p : Port) : Byte :=
  let q := s.ports.get p
  bit (decide (0 < s.faults.noticeCount p)) 7 ||| bit (s.faults.overflow.get p) 6 ||| bit q.replyReady 5 |||
  bit (decide (q.reply = .pending)) 4 ||| bit q.reject 3 ||| bit q.frame 2 ||| bit s.settleInFlight 1 |||
  bit (decide (s.clock.store = .blank)) 0

/-- The truth of a port's attention sources (R166). -/
def State.sources (s : State) (p : Port) : Enables :=
  { notice := decide (0 < s.faults.noticeCount p) || s.faults.overflow.get p
    reply := (s.ports.get p).replyWaiting
    settled := (s.ports.get p).settled
    statement := decide (p = .billing) && !s.queue.isEmpty }

/-- The port's attention output is asserted (R168). -/
def State.attention (s : State) (p : Port) : Bool :=
  let t := s.sources p
  let e := (s.ports.get p).enables
  s.interfacesRun && (t.notice && e.notice || t.reply && e.reply || t.settled && e.settled || t.statement && e.statement)

/-- The attention byte: true sources in bits 7 to 4, enables in bits 3 to 0 (R192). -/
def State.attentionByte (s : State) (p : Port) : Byte :=
  let t := s.sources p
  let e := (s.ports.get p).enables
  bit t.notice 7 ||| bit t.reply 6 ||| bit t.settled 5 ||| bit t.statement 4 |||
  bit e.notice 3 ||| bit e.reply 2 ||| bit e.settled 1 ||| bit e.statement 0

/-- The port's data-out line (R169, R183, R187): none for high impedance, while chip-select is high and while the
interfaces are stopped; otherwise the bytes shifted out so far, the status byte first. -/
def State.dataLine (s : State) (p : Port) : Option (List Byte) :=
  let q := s.ports.get p
  if !s.interfacesRun || !q.selected then none
  else if q.transaction = .lockedOut then Config.lockedOutLine
  else some (q.statusByte :: q.dataOut)

/-- A first-notice pointer as it is sent, 0xFF for empty (R192). -/
def pointerByte (o : Option Position) : Byte :=
  match o with
  | some i => BitVec.ofNat 8 i.val
  | none => 0xFF#8

/-- The sixteen extended bytes of STATUS (R173, section 12.3). -/
def State.extendedBytes (s : State) (p : Port) : List Byte :=
  [pointerByte (s.faults.firstNotice p), BitVec.ofNat 8 (s.faults.noticeCount p), BitVec.ofNat 8 s.queue.length] ++
  bigEndian 4 s.clock.interval ++ bigEndian 2 s.period ++ bigEndian 2 s.clock.elapsed ++
  [s.settle.code, s.clock.store.code, s.supervisor.supply.code ||| bit s.supervisor.backupLow 7, s.attentionByte p,
   bit (s.ports.get p).settled 0 ||| bit s.clock.tickLoss 1 ||| bit s.clock.deferred 2 ||| bit s.stagedClose 3]

end Sys2Proof.Machine
end

