-- ==== Sys2Proof/Machine/Ops.lean ====
section
/-!
DEFINITION. The operations every command is built from: reading and writing one record, the Store Arbiter's choice
and grants (R143 to R147), taking a request and completing it (R175, R176, R178), and the resets of account
fields that several commands share (R12, R127).
-/

namespace Sys2Proof.Machine

/-! ## One record -/

/-- One account record. -/
def State.account (s : State) (a : AccountNo) : Account := s.accounts.get a

/-- With one account record written. -/
def State.setAccount (s : State) (a : AccountNo) (r : Account) : State := { s with accounts := s.accounts.set a r }

/-- One meter slot. -/
def State.meter (s : State) (m : SlotNo) : MeterSlot := s.meters.get m

/-- With one meter slot written. -/
def State.setMeter (s : State) (m : SlotNo) (r : MeterSlot) : State := { s with meters := s.meters.set m r }

/-- One port. -/
def State.port (s : State) (p : Port) : PortState := s.ports.get p

/-- With one port written. -/
def State.setPort (s : State) (p : Port) (q : PortState) : State := { s with ports := s.ports.set p q }

/-- With the Interval Clock written. -/
def State.setClock (s : State) (c : Clock) : State := { s with clock := c }

/-- With one plant slot written. -/
def State.setPlant (s : State) (sv : Service) (r : PlantSlot) : State := { s with plant := s.plant.set sv r }

/-- The account service's working state with its estimate balance replaced. -/
def Account.setBalance (r : Account) (sv : Service) (n : Nat) : Account :=
  { r with work := r.work.set sv { r.work.get sv with balance := n } }

/-- The number of the interval after `n`: 4,294,967,295 is followed by 1 (R33). -/
def nextInterval (n : Nat) : Nat := if n = Config.max32 then 1 else n + 1

/-! ## Held deltas (R49) -/

/-- Deltas of the slot are held for the account: a settle is in flight, its bank records the slot LATE, and it has
not posted the account. -/
def State.holdActive (s : State) (m : SlotNo) (a : AccountNo) : Bool :=
  match s.bank with
  | some b => decide ((b.slots.get m).state = .late) && decide ((s.account a).settledThrough ≠ b.interval)
  | none => false

/-- The slot holds deltas whose hold has ended. -/
def State.heldDue (s : State) (m : SlotNo) : Bool :=
  match (s.meter m).held with
  | some h => !s.holdActive m h.account
  | none => false

/-- Some slot holds deltas whose hold has ended. -/
def State.anyHeldDue (s : State) : Bool := (List.finRange 64).any s.heldDue

/-! ## The Store Arbiter (R143, R144) -/

/-- A request of the port, or a stream's preparation, waits for the store; one the ownership test refuses never
does (R140). -/
def State.requestWaiting (s : State) (p : Port) : Bool :=
  match (s.port p).slot with
  | .empty => false
  | .request frame => ownerAllows p frame
  | .preparing => true

/-- The requester asks for the store (R143). -/
def State.waiting (s : State) : Requester → Bool
  | .drain => s.interfacesRun && (!s.capture.isEmpty || s.anyHeldDue)
  | .settle => s.interfacesRun && s.settleInFlight
  | .port p => s.interfacesRun && (s.requestWaiting p || (s.port p).framePending)

/-- A member of the yield set is still waiting (R144). -/
def State.yielding (s : State) : Bool := s.arbiter.yieldSet.any s.waiting

/-- The port waits and the other port's turn does not come first (R144). -/
def State.portEligible (s : State) (p : Port) : Bool :=
  s.waiting (.port p) && !(decide (s.arbiter.turn = some p.other) && s.waiting (.port p.other))

/-- The requester the arbiter grants now (R144): none while a grant is in progress, while an Interval Clock
operation is due, or when nobody may be granted. -/
def State.nextGrant (s : State) : Option Requester :=
  if s.arbiter.granted.isSome || s.deferredDue then none
  else if s.waiting .drain then some .drain
  else if s.waiting .settle && !s.yielding then some .settle
  else if s.portEligible .plant then some (.port .plant)
  else if s.portEligible .billing then some (.port .billing)
  else none

/-- The turn left when a requester is granted: a port that is granted has had its turn. -/
def turnAfterGrant (turn : Option Port) : Requester → Option Port
  | .port p => if turn = some p then none else turn
  | .drain => turn
  | .settle => turn

/-- A grant begins: the requester leaves the yield set. -/
def State.beginGrant (s : State) (r : Requester) : State :=
  { s with arbiter := { granted := some r, yieldSet := s.arbiter.yieldSet.filter fun q => decide (q ≠ r),
                        turn := turnAfterGrant s.arbiter.turn r } }

/-- A grant ends: after the Settle Engine's, the requesters then waiting form the yield set; after a port's, the
other port has the turn if it is waiting (R144). -/
def State.endGrant (s : State) (r : Requester) : State :=
  { s with arbiter :=
      match r with
      | .drain => { s.arbiter with granted := none }
      | .settle =>
        { s.arbiter with
          granted := none
          yieldSet := [Requester.drain, .port .plant, .port .billing].filter s.waiting }
      | .port p =>
        { s.arbiter with
          granted := none
          turn := if s.waiting (.port p.other) then some p.other else none } }

/-- The raises an operation carries for a detector outside the requesters, made before its own work (R157): a
pending PORT-FRAME in the port's next grant (R172), the pending LINE-OVERRUNs in the next drain operation (R42). -/
def State.carriedRaises (s : State) : Requester → State
  | .drain => { s.raiseTimes s.overruns .lineOverrun .line s.clock.interval with overruns := 0 }
  | .settle => s
  | .port p =>
    if (s.port p).framePending then
      (s.raise .portFrame (.port p) s.clock.interval).setPort p { s.port p with framePending := false }
    else s

/-- The state in which a granted operation starts its own work. -/
def State.openGrant (s : State) (r : Requester) : State := (s.beginGrant r).carriedRaises r

/-- One operation of a requester: carried out whole when the arbiter grants it now, and otherwise not at all
(log entry 2). -/
def State.operation (s : State) (r : Requester) (enabled : Bool) (work : State → State) : State :=
  if enabled && decide (s.nextGrant = some r) then (work (s.openGrant r)).endGrant r else s

/-! ## Requests (R175 to R178) -/

/-- What a request's work leaves: the store, the result code and the reply data. -/
structure Answer where
  state : State
  result : Result
  data : List Byte
  deriving DecidableEq, Repr

/-- A refusal: nothing written, no reply data. -/
def Answer.refuse (s : State) (r : Result) : Answer := ⟨s, r, []⟩

/-- A request carried out, with its reply data. -/
def Answer.ok (s : State) (data : List Byte) : Answer := ⟨s, .ok, data⟩

/-- How a port stands to a request command. -/
inductive Intake where
  /-- The slot holds this request, taken earlier. -/
  | held
  /-- The slot is empty and no transaction is open: its good frame is taken now. -/
  | taken
  /-- The slot holds another request in flight: the frame is discarded with REJECT. -/
  | rejected
  /-- Nothing reaches the port. -/
  | shut
  deriving DecidableEq, Repr

/-- How the port stands to the request whose frame this is. -/
def State.intake (s : State) (p : Port) (frame : List Byte) : Intake :=
  if !s.interfacesRun then .shut
  else if (s.port p).slot = .request frame then .held
  else if (s.port p).transaction ≠ .idle then .shut
  else if (s.port p).slot = .empty then .taken
  else .rejected

/-- A good frame reaches an empty slot (R175): the reply buffer becomes PENDING and any stream ends. -/
def State.takeRequest (s : State) (p : Port) (frame : List Byte) : State :=
  s.setPort p { s.port p with slot := .request frame, reply := .pending, stream := none }

/-- A good frame meets a request in flight (R175). -/
def State.rejectRequest (s : State) (p : Port) : State := s.setPort p { s.port p with reject := true }

/-- The state with the request in its slot. -/
def State.arrived (s : State) (p : Port) (frame : List Byte) : State :=
  match s.intake p frame with
  | .held => s
  | .taken => s.takeRequest p frame
  | .rejected => s.rejectRequest p
  | .shut => s

/-- The reply becomes READY and the slot empty (R176, R178). -/
def State.complete (s : State) (p : Port) (r : Result) (data : List Byte) : State :=
  s.setPort p { s.port p with slot := .empty, reply := .ready r data false }

/-- The request's grant ends with its reply. -/
def Answer.close (a : Answer) (p : Port) : State := (a.state.complete p a.result a.data).endGrant (.port p)

/-- The request is in its slot and the arbiter grants its port now. -/
def State.grantsRequest (s : State) (p : Port) (frame : List Byte) : Bool :=
  (decide (s.intake p frame = .held) || decide (s.intake p frame = .taken)) && ownerAllows p frame &&
  decide ((s.arrived p frame).nextGrant = some (.port p))

/-- The state in which a request's own work starts. -/
def State.started (s : State) (p : Port) (frame : List Byte) : State := (s.arrived p frame).openGrant (.port p)

/-- A request at a port (R175, R176): taken if it is not yet in the slot, discarded with REJECT if another is in
flight, refused with NOT-OWNER within the port, carried out in the port's grant, or left waiting for it. -/
def State.serve (s : State) (p : Port) (frame : List Byte) (work : State → Answer) : State :=
  match s.intake p frame with
  | .shut => s
  | .rejected => s.rejectRequest p
  | .held =>
    if !ownerAllows p frame then s.complete p .notOwner []
    else if s.nextGrant = some (.port p) then (work (s.started p frame)).close p
    else s
  | .taken =>
    if !ownerAllows p frame then (s.takeRequest p frame).complete p .notOwner []
    else if (s.arrived p frame).nextGrant = some (.port p) then (work (s.started p frame)).close p
    else s.arrived p frame

/-! ## Shared resets -/

/-- The working state a vacancy reset leaves (R12). -/
def Account.resetWork (r : Account) : Account := { r with work := ⟨.zero, .zero⟩ }

/-- The vacancy reset (R12). -/
def Account.vacancyReset (r : Account) : Account := { r.resetWork with tag := none, firstInterval := 0 }

/-- The totals reset (R4, R127). -/
def Account.resetTotals (r : Account) : Account := { r with totals := .zero }

/-- With the slot removed from the meter positions that hold it. -/
def Account.removeMeter (r : Account) (m : SlotNo) : Account :=
  { r with meterPos := r.meterPos.map fun o => if o = some m then none else o }

/-- The slot's assignment removed from the account's positions or the pool's list (R54, R56). -/
def State.dropAssignment (s : State) (m : SlotNo) : State :=
  match (s.meter m).target with
  | .unassigned => s
  | .account a => s.setAccount a ((s.account a).removeMeter m)
  | .pool p => { s with pools := s.pools.set p ((s.pools.get p).filter fun k => decide (k ≠ m)) }

end Sys2Proof.Machine
end

