-- ==== Sys2Proof/Machine/Formats.lean ====
section
/-!
DEFINITION. The reply layouts of sections 12.4 and 12.5 (R192).

An absent multi-byte value is sent as 0, and none or empty in a one-byte number position as 0xFF. Where R192 states
no value for an absent one-byte field the byte is a free value (log entry 8).
-/

namespace Sys2Proof

/-- Four numbers of `k` bytes, B0 to B3. -/
def PerBand.bytes (k : Nat) (x : PerBand Nat) : List Byte :=
  bigEndian k x.b0 ++ bigEndian k x.b1 ++ bigEndian k x.b2 ++ bigEndian k x.b3

end Sys2Proof

namespace Sys2Proof.Machine

/-- A flag in a reply (R192). -/
def flagByte (b : Bool) : Byte := if b then 1#8 else 0#8

/-- A one-byte number. -/
def byteOf (n : Nat) : Byte := BitVec.ofNat 8 n

/-- A one-byte number position, 0xFF for none. -/
def numberByte {n : Nat} (o : Option (Fin n)) : Byte :=
  match o with
  | some i => byteOf i.val
  | none => 0xFF#8

/-- The `k`th free byte of a reply. -/
def State.freeByte (s : State) (k : Nat) : Byte := Config.freeByte (s.freeSeq + k)

/-- With `n` free bytes used up. -/
def State.useFree (s : State) (n : Nat) : State := { s with freeSeq := s.freeSeq + n }

/-- A settings block (section 12.4). -/
def Settings.bytes (x : Settings) : List Byte :=
  [x.basis.heating.code] ++ bigEndian 2 x.power.heating ++ [numberByte x.line.heating] ++
  [x.basis.cooling.code] ++ bigEndian 2 x.power.cooling ++ [numberByte x.line.cooling] ++
  bigEndian 2 x.retailWeight ++ bigEndian 2 x.officeWeight ++ [flagByte x.lossShare]

/-- A staged settings block, zeros when absent. -/
def stagedSettingsBytes (o : Option Settings) : List Byte :=
  match o with
  | some x => x.bytes
  | none => List.replicate 13 0#8

/-- The staged tag, 0 when absent. -/
def stagedTag (o : Option StagedChange) : Word :=
  match o with
  | some (.moveIn tag) => tag
  | some .moveOut => 0#32
  | none => 0#32

/-- One account service's working state, 24 bytes. -/
def Working.bytes (w : Working) : List Byte :=
  bigEndian 2 w.carry ++ bigEndian 4 w.balance ++ [byteOf w.streak, byteOf w.history.length] ++
  bigEndian 4 (w.history.getD 0 0) ++ bigEndian 4 (w.history.getD 1 0) ++ bigEndian 4 (w.history.getD 2 0) ++
  bigEndian 4 (w.history.getD 3 0)

/-- One service's energy totals. -/
def EnergyTotals.bytes (e : EnergyTotals) : List Byte :=
  bigEndian 5 e.metered ++ bigEndian 5 e.estimated ++ bigEndian 5 e.common ++ bigEndian 5 e.loss

/-- Eight prices in the order of R81. -/
def priceBytes (x : PriceSet) : List Byte := x.heating.bytes 2 ++ x.cooling.bytes 2

/-- A staged price set, zeros when absent. -/
def stagedPriceBytes (o : Option PriceSet) : List Byte :=
  match o with
  | some x => priceBytes x
  | none => List.replicate 16 0#8

/-- The account record, 196 bytes (section 12.5). -/
def Account.bytes (a : AccountNo) (r : Account) : List Byte :=
  [byteOf a.val, r.tenancy.code,
   bit r.tag.isSome 0 ||| bit r.stagedSettings.isSome 1 ||| bit r.totals.active 2 ||| bit r.totals.saturated 3,
   stagedCode r.staged] ++
  bigEndian 4 (stagedTag r.staged).toNat ++ bigEndian 4 (r.tag.getD 0#32).toNat ++
  r.inForce.bytes ++ stagedSettingsBytes r.stagedSettings ++
  [numberByte r.meterPos.heating, numberByte r.meterPos.cooling] ++
  r.work.heating.bytes ++ r.work.cooling.bytes ++
  r.totals.energy.heating.bytes ++ r.totals.energy.cooling.bytes ++
  r.totals.cost.heating.bytes 6 ++ r.totals.cost.cooling.bytes 6 ++
  bigEndian 4 r.totals.occupied ++ bigEndian 4 r.totals.estimated ++ bigEndian 4 r.totals.interrupted ++
  bigEndian 4 r.firstInterval ++ bigEndian 4 r.settledThrough

/-- The number beside a target or owner kind; a free byte for kind 0, for which R192 states none. -/
def Target.numberByte (free : Byte) : Target → Byte
  | .unassigned => free
  | .account a => byteOf a.val
  | .pool p => p.code

/-- The held deltas and the account they are held for, zeros and 0xFF when absent. -/
def heldBytes (o : Option Held) : List Byte :=
  match o with
  | some h => bigEndian 4 h.energy.heating ++ bigEndian 4 h.energy.cooling ++ [byteOf h.account.val]
  | none => bigEndian 4 0 ++ bigEndian 4 0 ++ [0xFF#8]

/-- The meter slot, 42 bytes (section 12.5); two free bytes. -/
def State.meterBytes (s : State) (m : SlotNo) : List Byte :=
  let k := s.meter m
  [byteOf m.val, byteOf k.address, k.service.code, k.scale.code] ++ bigEndian 4 k.spikeLimit ++
  [byteOf k.lateLimit, k.target.kindCode, k.target.numberByte (s.freeByte 0), k.state.code] ++
  bigEndian 4 k.reference1.toNat ++ bigEndian 4 k.reference2.toNat ++
  [byteOf k.missed, byteOf k.errorStreak, bit k.frameSeen 0 ||| bit k.held.isSome 1] ++
  bigEndian 4 k.accumulation.heating ++ bigEndian 4 k.accumulation.cooling ++
  [k.owner.kindCode, k.owner.numberByte (s.freeByte 1)] ++ heldBytes k.held

/-- READ CLOCK, 15 bytes (section 12.4); three free bytes. -/
def State.clockBytes (s : State) : List Byte :=
  let c := s.clock
  [c.store.code] ++ bigEndian 4 c.interval ++ bigEndian 2 c.elapsed ++
  [bit c.deferred 0 ||| bit c.tickLoss 1 ||| bit c.stagedLength.isSome 2 ||| bit c.stagedBand.isSome 3 |||
     bit c.stagedTolerance.isSome 4 ||| bit c.stagedPrices.isSome 5,
   byteOf c.length, (c.stagedLength.map byteOf).getD (s.freeByte 0),
   c.band.code, (c.stagedBand.map Band.code).getD (s.freeByte 1),
   byteOf c.tolerance, (c.stagedTolerance.map byteOf).getD (s.freeByte 2),
   bit c.flags.stretched 0 ||| bit c.flags.interrupted 1 ||| bit c.flags.tickLoss 2 ||| bit c.flags.settingsApplied 3]

/-- READ PLANT, 11 bytes. -/
def PlantSlot.bytes (k : PlantSlot) : List Byte :=
  [k.scale.code, k.state.code] ++ bigEndian 4 k.reference.toNat ++ bigEndian 4 k.delta ++ [flagByte k.posted]

/-- READ LINE, 3 bytes. -/
def State.lineBytes (s : State) : List Byte := [s.lineRate.code, s.receiver.code, byteOf s.capture.length]

/-- The line stands active at these pin levels (R62). -/
def RuntimeLine.active (x : RuntimeLine) (pins : Half) (l : LineNo) : Bool := pins.getLsbD l.val != x.activeLow

/-- The line is active at the level the front end holds for it; it holds none while stopped (R62). -/
def State.lineActive (s : State) (l : LineNo) : Bool := s.linePins.any fun levels => (s.lines.get l).active levels l

/-- The account's in-force settings map the line to the service (R67). -/
def State.maps (s : State) (a : AccountNo) (sv : Service) (l : LineNo) : Bool :=
  decide ((s.account a).inForce.line.get sv = some l)

/-- The mapping byte of a line: account in bits 5 to 0 and service in bit 6, or 0xFF (section 12.4). -/
def State.mappingByte (s : State) (l : LineNo) : Byte :=
  match (List.finRange 48).find? fun a => s.maps a .heating l || s.maps a .cooling l with
  | some a => byteOf a.val ||| bit (!s.maps a .heating l) 6
  | none => 0xFF#8

/-- One line of READ RUNTIME. -/
def State.runtimeLineBytes (s : State) (l : LineNo) : List Byte :=
  let x := s.lines.get l
  [bit x.enabled 0 ||| bit x.activeLow 1 ||| bit (s.lineActive l) 2] ++ bigEndian 2 x.count ++ [s.mappingByte l]

/-- The no-advance settings, 5 bytes. -/
def NoAdvance.bytes (x : NoAdvance) : List Byte := bigEndian 2 x.openMin ++ bigEndian 2 x.advanceMin ++ [byteOf x.window]

/-- READ RUNTIME, 69 bytes. -/
def State.runtimeBytes (s : State) : List Byte :=
  ((List.finRange 16).map s.runtimeLineBytes).flatten ++ s.noAdvance.bytes

/-- READ TARIFF, 41 bytes; two free bytes. -/
def State.tariffBytes (s : State) : List Byte :=
  let c := s.clock
  [c.band.code, (c.stagedBand.map Band.code).getD (s.freeByte 0)] ++ priceBytes c.prices ++
  stagedPriceBytes c.stagedPrices ++
  [byteOf c.tolerance, (c.stagedTolerance.map byteOf).getD (s.freeByte 1),
   bit c.stagedBand.isSome 0 ||| bit c.stagedPrices.isSome 1 ||| bit c.stagedTolerance.isSome 2] ++
  bigEndian 4 c.interval

/-- The statement, 117 bytes (section 12.5). -/
def Statement.bytes (x : Statement) : List Byte :=
  [byteOf x.account.val, x.kind.code, bit x.saturated 0 ||| bit x.containsEstimate 1] ++
  bigEndian 4 x.tag.toNat ++ bigEndian 2 x.period ++ bigEndian 4 x.firstInterval ++ bigEndian 4 x.lastInterval ++
  bigEndian 4 x.occupied ++ bigEndian 4 x.estimated ++ bigEndian 4 x.interrupted ++
  x.energy.heating.bytes ++ x.energy.cooling.bytes ++ x.cost.heating.bytes 6 ++ x.cost.cooling.bytes 6

/-- The period number and the staged-close flag, the reply of CLOSE PERIOD and CANCEL CLOSE (R124). -/
def State.periodBytes (s : State) : List Byte := bigEndian 2 s.period ++ [flagByte s.stagedClose]

/-- The READ STATEMENT header, 4 bytes (R132). -/
def State.statementHeader (s : State) : List Byte := byteOf s.queue.length :: s.periodBytes

/-- One service of an interval summary, 40 bytes (section 12.5). -/
def Figures.bytes (f : Figures) : List Byte :=
  bigEndian 2 f.price ++ bigEndian 4 f.plant ++ bigEndian 5 f.meteredD ++ bigEndian 5 f.estimatedD ++
  bigEndian 5 f.retail ++ bigEndian 5 f.office ++ bigEndian 4 f.loss ++ bigEndian 5 f.excess ++
  bigEndian 5 f.remainder

/-- The interval summary, 86 bytes (section 12.5). -/
def Summary.bytes (x : Summary) : List Byte :=
  bigEndian 4 x.interval ++
  [x.band.code,
   bit (!x.figures.heating.posted) 0 ||| bit (!x.figures.cooling.posted) 1 ||| bit x.flags.stretched 2 |||
     bit x.flags.interrupted 3 ||| bit x.flags.tickLoss 4 ||| bit x.periodEnd 5 ||| bit x.flags.settingsApplied 6] ++
  x.figures.heating.bytes ++ x.figures.cooling.bytes

/-- One port's part of READ FAULT MAP. -/
def Faults.portBytes (f : Faults) (p : Port) : List Byte :=
  [byteOf (f.noticeCount p), pointerByte (f.firstNotice p), flagByte (f.overflow.get p)]

/-- READ FAULT MAP, 32 bytes (R165). -/
def Faults.mapBytes (f : Faults) : List Byte :=
  bigEndian 4 (positionMap f.occupied).toNat ++ bigEndian 4 (positionMap (f.noticeAt .plant)).toNat ++
  bigEndian 4 (positionMap (f.noticeAt .billing)).toNat ++ bigEndian 4 (positionMap f.activeAt).toNat ++
  f.portBytes .plant ++ f.portBytes .billing ++ bigEndian 2 f.counter ++
  bigEndian 4 f.mask.plant.toNat ++ bigEndian 4 f.mask.billing.toNat

/-- The fault entry, 16 bytes (section 12.5). -/
def FaultEntry.bytes (i : Position) (e : FaultEntry) : List Byte :=
  [byteOf i.val] ++ bigEndian 2 e.seq ++ [byteOf e.cls.code.val, e.subject.kindCode, e.subject.number] ++
  bigEndian 4 e.first ++ bigEndian 4 e.last ++
  [byteOf e.occurrences, bit e.active 0 ||| bit e.notice.plant 1 ||| bit e.notice.billing 2]

end Sys2Proof.Machine
end

