-- ==== Sys2Proof/Machine/BillingRequests.lean ====
section
/-!
DEFINITION. The Billing Port's other requests: SET PRICES (R82), CLOSE PERIOD and CANCEL CLOSE (R124, R125), TAKE
STATEMENT (R133, R134) and INITIALISE ACCOUNTS (R150, R151).
-/

namespace Sys2Proof.Machine

/-- The work of SET PRICES (R82). -/
def setPricesWork (prices : PerService (PerBand Half)) (s : State) : Answer :=
  .ok (s.setClock { s.clock with stagedPrices := some (pricesOf prices) }) []

/-- SET_PRICES (R82). -/
def execSetPrices (p : Port) (prices : PerService (PerBand Half)) (s : State) : Host.Outcome State Fault Refusal :=
  .next (s.serve p (Instr.setPrices p prices).requestBytes (setPricesWork prices))

/-- The queue holds a PERIOD statement. -/
def State.periodQueued (s : State) : Bool := s.queue.any fun x => decide (x.kind = .period)

/-- A settle whose bank carries PERIOD-END is in flight. -/
def State.closingInFlight (s : State) : Bool := s.bank.any fun b => b.periodEnd

/-- An answer that carries the period number and the staged-close flag after the request (R124, R125). -/
def periodAnswer (s : State) (r : Result) : Answer := ⟨s, r, s.periodBytes⟩

/-- The work of CLOSE PERIOD (R124). -/
def closePeriodWork (s : State) : Answer :=
  if s.clock.store ≠ .running then periodAnswer s .wrongState
  else if s.stagedClose then periodAnswer s .ok
  else if s.periodQueued then periodAnswer s .statementsPending
  else if s.closingInFlight then periodAnswer s .statementsPending
  else periodAnswer { s with stagedClose := true } .ok

/-- CLOSE_PERIOD (R124). -/
def execClosePeriod (p : Port) (s : State) : Host.Outcome State Fault Refusal :=
  .next (s.serve p (Instr.closePeriod p).requestBytes closePeriodWork)

/-- The work of CANCEL CLOSE (R125). -/
def cancelCloseWork (s : State) : Answer :=
  if s.stagedClose then periodAnswer { s with stagedClose := false } .ok else periodAnswer s .wrongState

/-- CANCEL_CLOSE (R125). -/
def execCancelClose (p : Port) (s : State) : Host.Outcome State Fault Refusal :=
  .next (s.serve p (Instr.cancelClose p).requestBytes cancelCloseWork)

/-- The account of a FINAL statement becomes VACANT, with the working state of its joined upper account (R134). -/
def State.vacate (s : State) (a : AccountNo) : State :=
  let t := s.setAccount a { (s.account a).vacancyReset with tenancy := .vacant }
  match upperOf a with
  | some u => if (t.account u).tenancy = .joined then t.setAccount u (t.account u).resetWork else t
  | none => t

/-- What the removal of a statement does to the account it names (R134). -/
def State.releaseStatement (s : State) (x : Statement) : State :=
  match x.kind with
  | .final => s.vacate x.account
  | .period => s

/-- The work of TAKE STATEMENT (R133). -/
def takeStatementWork (s : State) : Answer :=
  match s.queue with
  | [] => ⟨s, .empty, [0#8]⟩
  | x :: rest => .ok ({ s with queue := rest }.releaseStatement x) (byteOf rest.length :: x.bytes)

/-- TAKE_STATEMENT (R133). -/
def execTakeStatement (p : Port) (s : State) : Host.Outcome State Fault Refusal :=
  .next (s.serve p (Instr.takeStatement p).requestBytes takeStatementWork)

/-- A tenant account's tenancy stands in the way of INITIALISE ACCOUNTS (R150). -/
def State.tenanted (s : State) : Bool :=
  (List.finRange 48).any fun a => decide (a ≠ 0) && decide ((s.account a).tenancy ≠ .vacant)

/-- An account record after INITIALISE ACCOUNTS (R22): account 0 keeps its state and tag. -/
def Account.initialised (r : Account) (a : AccountNo) : Account :=
  { r with
    tenancy := if a = 0 then r.tenancy else .vacant
    staged := none
    tag := if a = 0 then r.tag else none
    work := ⟨.zero, .zero⟩
    totals := .zero
    firstInterval := 0
    settledThrough := 0 }

/-- The clock after INITIALISE ACCOUNTS (R31). -/
def Clock.initialised (c : Clock) : Clock :=
  { c with store := .aligning, interval := 0, elapsed := 0, deferred := false,
           flags := { IntervalFlags.clear with tickLoss := c.tickLoss } }

/-- The store after INITIALISE ACCOUNTS (R151). -/
def State.initialise (s : State) : State :=
  { s with
    accounts := Table.ofFn fun a => (s.account a).initialised a
    joinedNote := Table.fill 48 false
    clock := s.clock.initialised
    period := 1
    stagedClose := false
    queue := []
    ring := [] }

/-- The work of INITIALISE ACCOUNTS (R150). -/
def initialiseAccountsWork (s : State) : Answer :=
  if s.settleInFlight then .refuse s .busy
  else if s.clock.store = .blank then .ok s.initialise []
  else if s.tenanted then .refuse s .wrongState
  else if !s.queue.isEmpty then .refuse s .wrongState
  else .ok s.initialise []

/-- INITIALISE_ACCOUNTS (R150). -/
def execInitialiseAccounts (p : Port) (s : State) : Host.Outcome State Fault Refusal :=
  .next (s.serve p (Instr.initialiseAccounts p).requestBytes initialiseAccountsWork)

end Sys2Proof.Machine
end

