-- ==== Sys2Proof/Machine/Boundary.lean ====
section
/-!
DEFINITION. The boundary operation: the alignment boundary (R32), the boundary in RUNNING (R33 to R35) with the
bank it fills (R91, R92), and the timer's expiry (R26).
-/

namespace Sys2Proof.Machine

/-! ## What the bank records -/

/-- The tenancy state the bank records for an account (R6): an upper account that JOIN PAIR or SPLIT PAIR has changed
during the interval is recorded by its standing at the interval's beginning. -/
def State.recorded (s : State) (a : AccountNo) : Tenancy :=
  if s.joinedNote.get a then .joined
  else if (s.account a).tenancy = .joined then .vacant
  else (s.account a).tenancy

/-- A meter slot's missed count, state and frame-seen flag at a boundary in RUNNING (R51). -/
def MeterSlot.atBoundary (k : MeterSlot) : MeterSlot :=
  if k.state = .off then k
  else
    let missed := if k.frameSeen then 0 else addSat 255 k.missed 1
    { k with
      missed := missed
      state := if k.state = .live ∧ k.lateLimit ≤ missed then .late else k.state
      frameSeen := false }

/-- One slot's boundary update with its METER-LATE raise, which records the interval that ends (R51, R157). -/
def State.meterBoundary (s : State) (m : SlotNo) : State :=
  let k := s.meter m
  let t := s.setMeter m k.atBoundary
  if k.state = .live ∧ k.atBoundary.state = .late then t.raise .meterLate (.meter m) s.clock.interval else t

/-- Every slot's boundary update, in slot order. -/
def State.metersAtBoundary (s : State) : State := (List.finRange 64).foldl State.meterBoundary s

/-- The bank's record of an account (R92). -/
def State.bankAccount (s : State) (a : AccountNo) : BankAccount :=
  { recorded := s.recorded a, settings := (s.account a).inForce, meterPos := (s.account a).meterPos }

/-- The bank's record of a slot (R92). -/
def MeterSlot.banked (k : MeterSlot) : BankSlot :=
  { state := k.state, accumulation := k.accumulation, owner := k.owner }

/-- A line record: the count of an enabled line, DISABLED otherwise (R66). -/
def RuntimeLine.banked (x : RuntimeLine) : Option Nat := if x.enabled then some x.count else none

/-- The bank of the interval that ends, from the state after the meters' boundary update (R91, R92). -/
def State.fillBank (s : State) : Bank :=
  { interval := s.clock.interval, band := s.clock.band, prices := s.clock.prices, tolerance := s.clock.tolerance,
    noAdvance := s.noAdvance, flags := s.clock.flags, periodEnd := s.stagedClose,
    plant := s.plant.map fun k => { delta := k.delta, posted := k.posted },
    accounts := Table.ofFn s.bankAccount, slots := s.meters.map MeterSlot.banked,
    lines := s.lines.map RuntimeLine.banked }

/-! ## What begins afresh -/

/-- A slot's gathering reset: accumulation 0, owner the target or none (R50). -/
def MeterSlot.emptied (k : MeterSlot) : MeterSlot := { k with accumulation := ⟨0, 0⟩, owner := k.target }

/-- A plant slot's gathering reset (R58). -/
def PlantSlot.emptied (k : PlantSlot) : PlantSlot := { k with delta := 0, posted := false }

/-- A line's count reset (R66). -/
def RuntimeLine.emptied (x : RuntimeLine) : RuntimeLine := { x with count := 0 }

/-- Staged settings come into force (R16). -/
def Account.applySettings (r : Account) : Account :=
  { r with inForce := r.stagedSettings.getD r.inForce, stagedSettings := none }

/-- The staged tenancy change completed, `n` being the number of the new interval (R11). -/
def Account.completeMove (r : Account) (n : Nat) : Account :=
  match r.tenancy with
  | .opening =>
    { r with
      tenancy := .occupied
      tag := match r.staged with
        | some (.moveIn tag) => some tag
        | some .moveOut => r.tag
        | none => r.tag
      staged := none
      firstInterval := n }
  | .closing => { r with tenancy := .final, staged := none }
  | .vacant => r
  | .occupied => r
  | .final => r
  | .joined => r

/-- An account at the boundary that begins interval `n`. -/
def Account.atBoundary (r : Account) (n : Nat) : Account := r.applySettings.completeMove n

/-- Some staged setting comes into force at this boundary (R29). -/
def State.settingsStaged (s : State) : Bool :=
  s.clock.stagedLength.isSome || s.clock.stagedBand.isSome || s.clock.stagedPrices.isSome ||
  s.clock.stagedTolerance.isSome || (List.finRange 48).any fun a => (s.account a).stagedSettings.isSome

/-- The clock that begins interval `n`, `applied` telling whether a staged setting comes into force (R29, R33, R34). -/
def Clock.begin (c : Clock) (n : Nat) (applied : Bool) : Clock :=
  { store := .running, interval := n, elapsed := 0, deferred := false
    length := c.stagedLength.getD c.length, stagedLength := none
    band := c.stagedBand.getD c.band, stagedBand := none
    prices := c.stagedPrices.getD c.prices, stagedPrices := none
    tolerance := c.stagedTolerance.getD c.tolerance, stagedTolerance := none
    flags := { stretched := false, interrupted := false, tickLoss := c.tickLoss, settingsApplied := applied }
    tickLoss := c.tickLoss }

/-- Every block begins interval `n` with empty gatherings, and staged settings and tenancy changes come into force. -/
def State.beginInterval (s : State) (n : Nat) : State :=
  { s with
    meters := s.meters.map MeterSlot.emptied
    plant := s.plant.map PlantSlot.emptied
    lines := s.lines.map RuntimeLine.emptied
    accounts := s.accounts.map fun r => r.atBoundary n
    joinedNote := s.accounts.map fun r => decide (r.tenancy = .joined)
    clock := s.clock.begin n s.settingsStaged }

/-- A boundary taken in RUNNING (R33, R126): the bank filled, the new interval begun, the settle started. -/
def State.boundary (s : State) : State :=
  let t := s.metersAtBoundary
  { t.beginInterval (nextInterval s.clock.interval) with settle := .compute t.fillBank [], stagedClose := false }

/-- The alignment boundary (R32): gatherings discarded, frame-seen flags cleared, interval 1 begun; account 0's first
interval becomes 1 (R22). -/
def State.alignmentBoundary (s : State) : State :=
  let t := { s with meters := s.meters.map fun k => { k with frameSeen := false } }.beginInterval 1
  t.setAccount 0 { t.account 0 with firstInterval := 1 }

/-- The elapsed count has reached the limit with no boundary deferred: the timer has expired (R24, R26). -/
def Clock.expired (c : Clock) : Bool := !c.deferred && decide (c.limit ≤ c.elapsed)

/-- What the timer's expiry brings about (R26): the alignment boundary, a boundary, or its deferral behind a settle in flight. -/
def State.expireTimer (s : State) : State :=
  match s.clock.store with
  | .blank => s
  | .aligning => s.alignmentBoundary
  | .running => if s.settleInFlight then s.setClock { s.clock with deferred := true } else s.boundary

end Sys2Proof.Machine
end

