-- ==== Sys2Proof/Machine/ClockEvents.lean ====
section
/-!
DEFINITION. The events at the Interval Clock: TICK_EDGE (R24, R30, R64), TIMER_EXPIRY and DEFERRED_BOUNDARY (R26),
TICK_LOSS_TIMEOUT (R30).
-/

namespace Sys2Proof.Machine

/-- A deferred boundary that is due is taken (R26, R95), ahead of a later clock event (R35, log entry 5). -/
def State.finishDeferred (s : State) : State := if s.deferredDue && s.interfacesRun then s.boundary else s

/-- One open second for an enabled, active line, stopping at 3,600 (R64, R65). -/
def RuntimeLine.counted (x : RuntimeLine) (active : Bool) : RuntimeLine :=
  if x.enabled && active then { x with count := addSat Config.openSecondsMax x.count 1 } else x

/-- Every line's open second at a counted TICK, by the levels taken at it (R64). -/
def State.countLines (s : State) : State :=
  { s with lines := Table.ofFn fun l => (s.lines.get l).counted (s.lineActive l) }

/-- The elapsed count at a counted TICK: held during a deferral (R24). -/
def Clock.counted (c : Clock) : Clock :=
  if c.deferred = false ∧ c.elapsed < c.limit then { c with elapsed := c.elapsed + 1 } else c

/-- An edge of TICK ends the TICK-LOSS condition (R30). -/
def State.endTickLoss (s : State) : State :=
  if s.clock.tickLoss then (s.setClock { s.clock with tickLoss := false }).endCondition .tickLoss .clock else s

/-- The line levels as they stand at the edge (R62). -/
def State.takeLevels (s : State) (levels : Half) : State := { s with linePins := some levels }

/-- A counted TICK up to the limit's test: the elapsed count and the open seconds (R24, R64). -/
def State.countTick (s : State) : State := (s.setClock s.clock.counted).countLines

/-- What the count brings about: the timer's boundary when it stands at the limit (R24, R26). -/
def State.expireIfDue (s : State) : State := if s.clock.expired then s.expireTimer else s

/-- A TICK edge while the interfaces run (R24, R30, R64): it is counted in ALIGNING and RUNNING, and with the boundary it
brings about it is one operation (R143). -/
def State.tick (s : State) (levels : Half) : State :=
  let t := s.endTickLoss.takeLevels levels
  if t.ticksCount then t.countTick.expireIfDue else t

/-- TICK_EDGE (R24). -/
def execTickEdge (levels : Half) (s : State) : Host.Outcome State Fault Refusal :=
  .next (if s.interfacesRun then s.finishDeferred.tick levels else s)

/-- The next TICK is a counted TICK that brings the elapsed count to the limit (R24). -/
def State.expiresNext (s : State) : Bool := s.ticksCount && s.clock.counted.expired

/-- TIMER_EXPIRY (R26): the counted TICK that brings the elapsed count to the limit, with what follows, as one operation
(R143), the levels of the lines being free; any other moment has no such event (log entry 5). -/
def execTimerExpiry (s : State) : Host.Outcome State Fault Refusal :=
  .next (if s.expiresNext then (s.useFree 1).tick (Config.freeLevels s.freeSeq) else s)

/-- DEFERRED_BOUNDARY (R26, R95). -/
def execDeferredBoundary (s : State) : Host.Outcome State Fault Refusal := .next s.finishDeferred

/-- The TICK-LOSS condition becomes active (R30). -/
def State.beginTickLoss (s : State) : State :=
  (s.setClock { s.clock with tickLoss := true, flags := { s.clock.flags with tickLoss := true } }).raise .tickLoss .clock
    s.clock.interval

/-- TICK_LOSS_TIMEOUT (R30): a condition that is active already stays as it is (log entry 14). -/
def execTickLossTimeout (s : State) : Host.Outcome State Fault Refusal :=
  .next (
    if s.interfacesRun then
      let t := s.finishDeferred
      if t.clock.tickLoss then t else t.beginTickLoss
    else s)

end Sys2Proof.Machine
end

