-- ==== Sys2Proof/Machine/MeterRequests.lean ====
section
/-!
DEFINITION. The requests that configure and assign meters: CONFIGURE METER, RETIRE METER, RE-REFERENCE METER,
ASSIGN METER, UNASSIGN METER (R52 to R57), and what they share with the drain (R46, R50).
-/

namespace Sys2Proof.Machine

/-! ## Shared with the drain and the post -/

/-- What a new count is against its reference (R46). -/
inductive Delta where
  | rollback
  | spike
  | advance (energy : Nat)
  deriving DecidableEq, Repr

/-- The raw delta of a count, modulo 2^32 (R46). -/
def rawDelta (reference value : Word) : Nat := (value - reference).toNat

/-- The delta of a count at a scale under a spike limit, 0 meaning that the cap alone applies (R46). -/
def deltaOf (scale : Scale) (spikeLimit : Nat) (reference value : Word) : Delta :=
  let raw := rawDelta reference value
  let energy := raw * scale.factor
  if Config.rollbackAt ≤ raw then .rollback
  else if (spikeLimit ≠ 0 ∧ spikeLimit < energy) ∨ Config.energyCap < energy then .spike
  else .advance energy

/-- A slot made SUSPECT, its METER-LATE condition ended and METER-SUSPECT raised, recording an interval (R45, R47,
R77, R157). -/
def State.makeSuspect (s : State) (m : SlotNo) (interval : Nat) : State :=
  let k := s.meter m
  let t := s.setMeter m { k with state := .suspect }
  let u := if k.state = .late then t.endCondition .meterLate (.meter m) else t
  u.raise .meterSuspect (.meter m) interval

/-- The conditions of a slot that leaves LATE or SUSPECT are ended (R53, R54). -/
def State.endMeterConditions (s : State) (m : SlotNo) : State :=
  let k := s.meter m
  let t := if k.state = .late then s.endCondition .meterLate (.meter m) else s
  if k.state = .suspect then t.endCondition .meterSuspect (.meter m) else t

/-- The references, missed count, error streak and frame-seen flag of a slot with nothing measured. -/
def MeterSlot.cleared (k : MeterSlot) (st : MeterState) : MeterSlot :=
  { k with state := st, reference1 := 0#32, reference2 := 0#32, missed := 0, errorStreak := 0, frameSeen := false }

/-! ## CONFIGURE METER (R52) -/

/-- Another slot that is not OFF holds the address. -/
def State.addressTaken (s : State) (m : SlotNo) (address : Nat) : Bool :=
  (List.finRange 64).any fun k =>
    decide (k ≠ m) && decide ((s.meter k).state ≠ .off) && decide ((s.meter k).address = address)

/-- A slot with its configuration written (R52). A change of service makes a LIVE or LATE slot UNREFERENCED, and the
reference of a register no longer used is 0 (R44; log entry 12). -/
def MeterSlot.configured (k : MeterSlot) (address : Nat) (service : MeterService) (scale : Scale)
    (spike late : Nat) : MeterSlot :=
  let c := { k with address := address, service := service, scale := scale, spikeLimit := spike, lateLimit := late }
  if k.state = .off then c.cleared .unreferenced
  else if service = k.service then c
  else
    { c with
      state := if k.state = .live ∨ k.state = .late then .unreferenced else k.state
      reference1 := if service.credits .heating then k.reference1 else 0#32
      reference2 := if service.credits .cooling then k.reference2 else 0#32 }

/-- The work of CONFIGURE METER (R52). -/
def configureMeterWork (slot address service scale : Byte) (spike : Word) (late : Byte) (s : State) : Answer :=
  match slotOf slot with
  | none => .refuse s .badIndex
  | some m =>
    match meterServiceOf service, scaleOf scale with
    | some v, some x =>
      let k := s.meter m
      let address := clamp 1 250 address.toNat
      let spike := clamp 0 Config.energyCap spike.toNat
      let late := clamp 1 15 late.toNat
      if s.addressTaken m address then .refuse s .duplicate
      else if k.target ≠ .unassigned ∧ (v ≠ k.service ∨ x ≠ k.scale) then .refuse s .wrongState
      else
        let t := s.setMeter m (k.configured address v x spike late)
        let t := if k.state = .late ∧ v ≠ k.service then t.endCondition .meterLate (.meter m) else t
        .ok t ([byteOf address, v.code, x.code] ++ bigEndian 4 spike ++ [byteOf late])
    | none, _ => .refuse s .badValue
    | some _, none => .refuse s .badValue

/-- CONFIGURE_METER (R52). -/
def execConfigureMeter (p : Port) (slot address service scale : Byte) (spike : Word) (late : Byte) (s : State) :
    Host.Outcome State Fault Refusal :=
  .next (s.serve p (Instr.configureMeter p slot address service scale spike late).requestBytes
    (configureMeterWork slot address service scale spike late))

/-! ## RETIRE METER (R54) -/

/-- The work of RETIRE METER (R54). -/
def retireMeterWork (slot : Byte) (s : State) : Answer :=
  match slotOf slot with
  | none => .refuse s .badIndex
  | some m =>
    let k := s.meter m
    if k.state = .off then .refuse s .wrongState
    else
      let t := (s.endMeterConditions m).dropAssignment m
      let t := t.setMeter m { k.cleared .off with target := .unassigned }
      .ok (if k.target = .unassigned then t else t.raise .meterRetiredAssigned (.meter m) s.clock.interval) []

/-- RETIRE_METER (R54). -/
def execRetireMeter (p : Port) (slot : Byte) (s : State) : Host.Outcome State Fault Refusal :=
  .next (s.serve p (Instr.retireMeter p slot).requestBytes (retireMeterWork slot))

/-! ## RE-REFERENCE METER (R53) -/

/-- The estimate balances of the services a meter reports set to 0. -/
def Account.clearBalances (r : Account) (v : MeterService) : Account :=
  { r with work := PerService.ofFn fun sv =>
      if v.credits sv then { r.work.get sv with balance := 0 } else r.work.get sv }

/-- The balances of the account services a slot credits cleared (R53). -/
def State.clearSlotBalances (s : State) (m : SlotNo) : State :=
  match (s.meter m).target with
  | .account a => s.setAccount a ((s.account a).clearBalances (s.meter m).service)
  | .pool _ => s
  | .unassigned => s

/-- The work of RE-REFERENCE METER (R53), its tests in the order of R148. -/
def reReferenceMeterWork (slot : Byte) (s : State) : Answer :=
  match slotOf slot with
  | none => .refuse s .badIndex
  | some m =>
    if s.settleInFlight then .refuse s .busy
    else if (s.meter m).state = .off then .refuse s .wrongState
    else
      let t := (s.endMeterConditions m).clearSlotBalances m
      .ok (t.setMeter m ((s.meter m).cleared .unreferenced)) []

/-- RE_REFERENCE_METER (R53). -/
def execReReferenceMeter (p : Port) (slot : Byte) (s : State) : Host.Outcome State Fault Refusal :=
  .next (s.serve p (Instr.reReferenceMeter p slot).requestBytes (reReferenceMeterWork slot))

/-! ## ASSIGN METER and UNASSIGN METER (R55, R56) -/

/-- The target has room for the slot: the account's positions for its service are empty, or the pool is not full. -/
def State.targetFree (s : State) (k : MeterSlot) : Target → Bool
  | .account a =>
    let pos := (s.account a).meterPos
    !(k.service.credits .heating && pos.heating.isSome) && !(k.service.credits .cooling && pos.cooling.isSome)
  | .pool p => decide ((s.pools.get p).length < Config.poolMax)
  | .unassigned => false

/-- A slot's accumulation is 0 for both services. -/
def MeterSlot.nothingGathered (k : MeterSlot) : Bool :=
  decide (k.accumulation.heating = 0) && decide (k.accumulation.cooling = 0)

/-- The slot written into the target's positions or appended to its list (R55). -/
def State.placeMeter (s : State) (m : SlotNo) (v : MeterService) : Target → State
  | .account a =>
    let r := s.account a
    s.setAccount a { r with meterPos := PerService.ofFn fun sv => if v.credits sv then some m else r.meterPos.get sv }
  | .pool p => { s with pools := s.pools.set p (s.pools.get p ++ [m]) }
  | .unassigned => s

/-- The work of ASSIGN METER (R55). -/
def assignMeterWork (slot kind number : Byte) (s : State) : Answer :=
  match slotOf slot with
  | none => .refuse s .badIndex
  | some m =>
    match targetOf kind number with
    | .error r => .refuse s r
    | .ok g =>
      let k := s.meter m
      if k.state = .off ∨ k.target ≠ .unassigned ∨ k.held.isSome = true ∨ s.targetFree k g = false ∨
          (k.nothingGathered = false ∧ k.owner ≠ g) then .refuse s .wrongState
      else .ok ((s.placeMeter m k.service g).setMeter m { k with target := g, owner := g }) []

/-- ASSIGN_METER (R55). -/
def execAssignMeter (p : Port) (slot kind number : Byte) (s : State) : Host.Outcome State Fault Refusal :=
  .next (s.serve p (Instr.assignMeter p slot kind number).requestBytes (assignMeterWork slot kind number))

/-- The work of UNASSIGN METER (R56). -/
def unassignMeterWork (slot : Byte) (s : State) : Answer :=
  match slotOf slot with
  | none => .refuse s .badIndex
  | some m =>
    let k := s.meter m
    if k.target = .unassigned then .refuse s .wrongState
    else .ok ((s.dropAssignment m).setMeter m { k with target := .unassigned }) []

/-- UNASSIGN_METER (R56). -/
def execUnassignMeter (p : Port) (slot : Byte) (s : State) : Host.Outcome State Fault Refusal :=
  .next (s.serve p (Instr.unassignMeter p slot).requestBytes (unassignMeterWork slot))

end Sys2Proof.Machine
end

