-- ==== Sys2Proof/Machine/MeterLine.lean ====
section
/-!
DEFINITION. The meter line: METER_LINE_CHARACTER and GAP_EXPIRY at the receiver (R38 to R43), DRAIN_CAPTURE_ENTRY and
APPLY_HELD_DELTAS at the Meter Table (R45 to R50).
-/

namespace Sys2Proof.Machine

/-! ## The receiver (R39 to R42) -/

/-- The non-OFF slot that holds a line address; 0 and 251 to 255 match none (R40). -/
def State.slotAt (s : State) (address : Byte) : Option SlotNo :=
  if 1 ≤ address.toNat ∧ address.toNat ≤ 250 then
    (List.finRange 64).find? fun m =>
      decide ((s.meter m).state ≠ .off) && decide ((s.meter m).address = address.toNat)
  else none

/-- A new entry joins the capture queue, or is dropped with a LINE-OVERRUN asked for (R42). -/
def State.enqueue (s : State) (e : CaptureEntry) : State :=
  if s.capture.length < Config.captureBuffers then { s with capture := s.capture ++ [e] }
  else { s with overruns := s.overruns + 1 }

/-- The receiver in a state. -/
def State.receive (s : State) (r : Receiver) : State := { s with receiver := r }

/-- The state an address character leads to (R40). -/
def State.addressedBy (s : State) (address : Byte) : Receiver :=
  match s.slotAt address with
  | some m => .addressed m address []
  | none => .discarding

/-- An address character (R40). -/
def State.addressCharacter (s : State) (address : Byte) : State :=
  match s.receiver with
  | .idle => s.receive (s.addressedBy address)
  | .discarding => s.receive (s.addressedBy address)
  | .addressed m old taken =>
    (if taken.isEmpty then s else s.enqueue (.error m old .truncated)).receive (s.addressedBy address)

/-- A character whose stop bit is low (R40). -/
def State.framingCharacter (s : State) : State :=
  match s.receiver with
  | .idle => s.receive .discarding
  | .discarding => s.receive .discarding
  | .addressed m address _ => (s.enqueue (.error m address .framing)).receive .discarding

/-- The sum modulo 256 of characters (R39). -/
def checkSum (bytes : List Byte) : Byte := bytes.foldl (· + ·) 0#8

/-- The data character at a position counted from 1. -/
def taken (bytes : List Byte) (position : Nat) : Byte := bytes.getD (position - 1) 0#8

/-- The register whose least significant character stands at a position (R39). -/
def registerAt (bytes : List Byte) (position : Nat) : Word :=
  taken bytes (position + 3) ++ taken bytes (position + 2) ++ taken bytes (position + 1) ++ taken bytes position

/-- The good frame that twelve data characters spell (R39, R42). -/
def frameOf (m : SlotNo) (address : Byte) (bytes : List Byte) : CaptureEntry :=
  .frame m address (registerAt bytes 3) (registerAt bytes 7) (taken bytes 11)

/-- A data character taken in ADDRESSED (R39, R40): the function and the length are tested at position 2, the check at
position 12. -/
def State.dataCharacter (s : State) (data : Byte) : State :=
  match s.receiver with
  | .idle => s
  | .discarding => s
  | .addressed m address before =>
    let now := before ++ [data]
    if now.length = 2 ∧ data ≠ Config.readingFunction then s.receive .discarding
    else if now.length = 2 ∧ taken now 1 ≠ Config.readingLength then
      (s.enqueue (.error m address .length)).receive .discarding
    else if now.length = 12 then
      (s.enqueue (if checkSum before = data then frameOf m address now else .error m address .check)).receive
        .discarding
    else s.receive (.addressed m address now)

/-- METER_LINE_CHARACTER (R38, R40): taken while the interfaces run. -/
def execMeterLineCharacter (address : Bool) (data : Byte) (stopHigh : Bool) (s : State) :
    Host.Outcome State Fault Refusal :=
  .next (
    if !s.interfacesRun then s
    else if !stopHigh then s.framingCharacter
    else if address then s.addressCharacter data
    else s.dataCharacter data)

/-- GAP_EXPIRY (R41). -/
def execGapExpiry (s : State) : Host.Outcome State Fault Refusal :=
  .next (
    if !s.interfacesRun then s
    else
      match s.receiver with
      | .idle => s
      | .discarding => s.receive .idle
      | .addressed m address taken =>
        (if taken.isEmpty then s else s.enqueue (.error m address .gap)).receive .idle)

/-! ## Deltas into balances and accumulations (R49, R50) -/

/-- What an account service's estimate balance takes of a delta (R49). -/
def reduction (delta balance : Nat) : Nat := if delta < balance then delta else balance

/-- The account's balances after they have met the deltas (R49). -/
def Account.reduce (r : Account) (d : PerService Nat) : Account :=
  { r with work := PerService.ofFn fun sv =>
      { r.work.get sv with balance := (r.work.get sv).balance - reduction (d.get sv) (r.work.get sv).balance } }

/-- What the balances leave of the deltas (R49). -/
def Account.leaves (r : Account) (d : PerService Nat) : PerService Nat :=
  PerService.ofFn fun sv => d.get sv - reduction (d.get sv) (r.work.get sv).balance

/-- Sums per service that stop at 268,435,455 Wh. -/
def addEnergy (a b : PerService Nat) : PerService Nat :=
  PerService.ofFn fun sv => addSat Config.energyCap (a.get sv) (b.get sv)

/-- Energy accumulated under an owner (R50). -/
def MeterSlot.gather (k : MeterSlot) (owner : Target) (d : PerService Nat) : MeterSlot :=
  { k with accumulation := addEnergy k.accumulation d, owner := owner }

/-- Deltas set against an account's balances, the rest accumulated in a slot under the account (R49, R50). -/
def State.meetBalance (s : State) (m : SlotNo) (a : AccountNo) (d : PerService Nat) : State :=
  let r := s.account a
  (s.setAccount a (r.reduce d)).setMeter m ((s.meter m).gather (.account a) (r.leaves d))

/-- Deltas added to those held for an account (R49). -/
def MeterSlot.hold (k : MeterSlot) (a : AccountNo) (d : PerService Nat) : MeterSlot :=
  { k with held := some { energy := addEnergy (match k.held with | some h => h.energy | none => ⟨0, 0⟩) d,
                          account := a } }

/-- The deltas of a good frame disposed of, the bank's record of the slot deciding whether they are held (R48 to
R50). -/
def State.disposeDeltas (s : State) (m : SlotNo) (d : PerService Nat) : State :=
  match (s.meter m).target with
  | .unassigned => s
  | .pool q => s.setMeter m ((s.meter m).gather (.pool q) d)
  | .account a => if s.holdActive m a then s.setMeter m ((s.meter m).hold a d) else s.meetBalance m a d

/-! ## Draining one entry (R45 to R48) -/

/-- A frame rejected: the event, then the slot SUSPECT (R47). -/
def State.rejectFrame (s : State) (m : SlotNo) (c : FaultClass) : State :=
  (s.raise c (.meter m) s.clock.interval).makeSuspect m s.clock.interval

/-- An ERROR entry of a slot (R45). -/
def State.drainError (s : State) (m : SlotNo) : State :=
  let k := s.meter m
  let t := (s.setMeter m { k with errorStreak := addSat 15 k.errorStreak 1 }).raise .lineFrame (.meter m)
    s.clock.interval
  if k.errorStreak + 1 = Config.linkStreak then
    let u := t.raise .meterLink (.meter m) s.clock.interval
    if k.state = .suspect then u else u.makeSuspect m s.clock.interval
  else t

/-- The delta of the register a service is read from: nothing from a register the slot does not use (R46, R44). -/
def MeterSlot.deltaFor (k : MeterSlot) (sv : Service) (value : Word) : Delta :=
  if k.service.credits sv then
    deltaOf k.scale k.spikeLimit (match sv with | .heating => k.reference1 | .cooling => k.reference2) value
  else .advance 0

/-- The slot with a good frame's values as its references (R48). -/
def MeterSlot.heard (k : MeterSlot) (register1 register2 : Word) : MeterSlot :=
  { k with
    reference1 := if k.service.credits .heating then register1 else k.reference1
    reference2 := if k.service.credits .cooling then register2 else k.reference2
    frameSeen := true, errorStreak := 0, state := .live }

/-- The tests of a frame from a LIVE or LATE slot, in their order (R47): the event of the first that fails, or the
energies. -/
def MeterSlot.testFrame (k : MeterSlot) (register1 register2 : Word) (status : Byte) :
    Except FaultClass (PerService Nat) :=
  if status.getLsbD 0 then .error .meterAlarm
  else
    match k.deltaFor .heating register1, k.deltaFor .cooling register2 with
    | .rollback, _ => .error .meterRollback
    | .spike, _ => .error .meterSpike
    | .advance _, .rollback => .error .meterRollback
    | .advance _, .spike => .error .meterSpike
    | .advance h, .advance c => .ok ⟨h, c⟩

/-- A frame from a LIVE or LATE slot (R47, R48). -/
def State.drainReading (s : State) (m : SlotNo) (register1 register2 : Word) (status : Byte) : State :=
  let k := s.meter m
  match k.testFrame register1 register2 status with
  | .error c => s.rejectFrame m c
  | .ok d =>
    let t := s.setMeter m (k.heard register1 register2)
    let u := if k.state = .late then t.endCondition .meterLate (.meter m) else t
    u.disposeDeltas m d

/-- A FRAME entry of a slot, by the slot's state (R48). -/
def State.drainFrame (s : State) (m : SlotNo) (register1 register2 : Word) (status : Byte) : State :=
  match (s.meter m).state with
  | .off => s
  | .unreferenced =>
    if status.getLsbD 0 then s.rejectFrame m .meterAlarm
    else s.setMeter m ((s.meter m).heard register1 register2)
  | .live => s.drainReading m register1 register2 status
  | .late => s.drainReading m register1 register2 status
  | .suspect => s

/-- The entry still concerns its slot: not OFF and not readdressed (R45). -/
def State.concerns (s : State) (m : SlotNo) (address : Byte) : Bool :=
  decide ((s.meter m).state ≠ .off) && decide ((s.meter m).address = address.toNat)

/-- The effect of one entry (R45). -/
def State.drainEntry (s : State) : CaptureEntry → State
  | .frame m address register1 register2 status =>
    if s.concerns m address then s.drainFrame m register1 register2 status else s
  | .error m address _ => if s.concerns m address then s.drainError m else s

/-- The head entry drained; its buffer is free once the operation has completed (R42). -/
def State.drainHead (s : State) : State :=
  match s.capture with
  | [] => s
  | e :: rest => { s.drainEntry e with capture := rest }

/-- DRAIN_CAPTURE_ENTRY (R45 to R50): held deltas whose hold has ended are applied before the next entry. -/
def execDrainCaptureEntry (s : State) : Host.Outcome State Fault Refusal :=
  .next (s.operation .drain (!s.capture.isEmpty && !s.anyHeldDue) State.drainHead)

/-! ## Held deltas (R49) -/

/-- A slot's held deltas applied to the account they are held for, and the held field removed (R49). -/
def State.applyHeld (s : State) (m : SlotNo) : State :=
  match (s.meter m).held with
  | none => s
  | some h =>
    let t := s.meetBalance m h.account h.energy
    t.setMeter m { t.meter m with held := none }

/-- APPLY_HELD_DELTAS (R49): slot numbers from 64 on name nothing. -/
def execApplyHeldDeltas (slot : Nat) (s : State) : Host.Outcome State Fault Refusal :=
  .next (
    if h : slot < 64 then s.operation .drain (s.heldDue ⟨slot, h⟩) fun t => t.applyHeld ⟨slot, h⟩ else s)

end Sys2Proof.Machine
end

