-- ==== Sys2Proof/Machine/OwnRequests.lean ====
section
/-!
DEFINITION. The requests each port owns for itself: SET REPORT MASK (R161), SET ATN ENABLES (R167), ACK NOTICES
(R163).
-/

namespace Sys2Proof.Machine

/-- The work of SET REPORT MASK (R161). -/
def setReportMaskWork (p : Port) (mask : Word) (s : State) : Answer :=
  .ok { s with faults := { s.faults with mask := s.faults.mask.set p (maskOf mask) } } (bigEndian 4 (maskOf mask).toNat)

/-- SET_REPORT_MASK (R161). -/
def execSetReportMask (p : Port) (mask : Word) (s : State) : Host.Outcome State Fault Refusal :=
  .next (s.serve p (Instr.setReportMask p mask).requestBytes (setReportMaskWork p mask))

/-- With the port's enable set written. -/
def State.setEnables (s : State) (p : Port) (e : Enables) : State := s.setPort p { s.port p with enables := e }

/-- The work of SET ATN ENABLES (R167). -/
def setAtnEnablesWork (p : Port) (enables : Byte) (s : State) : Answer :=
  let t := s.setEnables p (enablesOf p enables)
  .ok t [t.attentionByte p]

/-- SET_ATN_ENABLES (R167). -/
def execSetAtnEnables (p : Port) (enables : Byte) (s : State) : Host.Outcome State Fault Refusal :=
  .next (s.serve p (Instr.setAtnEnables p enables).requestBytes (setAtnEnablesWork p enables))

/-- A position an acknowledgement freed (R163). -/
def Faults.freedBy (f : Faults) (p : Port) (selection : Word) (i : Position) : Bool :=
  f.acked p selection i && (f.entries.get i).all fun e => (e.ack p).isNone

/-- The work of ACK NOTICES (R163). -/
def ackNoticesWork (p : Port) (selection : Word) (overflowClear : Byte) (s : State) : Answer :=
  let f := s.faults.ack p selection (flagOf overflowClear)
  .ok { s with faults := f }
    (bigEndian 4 (positionMap (s.faults.acked p selection)).toNat ++
     bigEndian 4 (positionMap (s.faults.freedBy p selection)).toNat ++ f.portBytes p)

/-- ACK_NOTICES (R163). -/
def execAckNotices (p : Port) (selection : Word) (overflowClear : Byte) (s : State) : Host.Outcome State Fault Refusal :=
  .next (s.serve p (Instr.ackNotices p selection overflowClear).requestBytes (ackNoticesWork p selection overflowClear))

end Sys2Proof.Machine
end

