-- ==== Sys2Proof/Machine/PlantRequests.lean ====
section
/-!
DEFINITION. The Plant Port's other requests: plant slots (R59, R60), runtime lines and the no-advance settings (R63,
R75), band, interval length and tolerance (R80, R25, R85), line rate (R38) and MARK (R27, R28).
-/

namespace Sys2Proof.Machine

/-- The work of POST PLANT READING (R59). Its action byte is 0 REFERENCED, 1 ADDED, 2 REJECTED (R192). -/
def postPlantReadingWork (service : Byte) (count : Word) (s : State) : Answer :=
  match serviceOf service with
  | none => .refuse s .badValue
  | some sv =>
    let k := s.plant.get sv
    match k.state with
    | .unreferenced => .ok (s.setPlant sv { k with reference := count, state := .live }) [0#8]
    | .held => .refuse s .wrongState
    | .live =>
      match deltaOf k.scale 0 k.reference count with
      | .advance energy =>
        .ok (s.setPlant sv { k with reference := count, delta := addSat Config.energyCap k.delta energy,
                                    posted := true }) [1#8]
      | .rollback =>
        .ok (((s.setPlant sv { k with state := .held }).raise .plantRollback (.plant sv) s.clock.interval).raise
          .plantHeld (.plant sv) s.clock.interval) [2#8]
      | .spike =>
        .ok (((s.setPlant sv { k with state := .held }).raise .plantSpike (.plant sv) s.clock.interval).raise
          .plantHeld (.plant sv) s.clock.interval) [2#8]

/-- POST_PLANT_READING (R59). -/
def execPostPlantReading (p : Port) (service : Byte) (count : Word) (s : State) : Host.Outcome State Fault Refusal :=
  .next (s.serve p (Instr.postPlantReading p service count).requestBytes (postPlantReadingWork service count))

/-- The work of RE-REFERENCE PLANT (R60). -/
def reReferencePlantWork (service : Byte) (s : State) : Answer :=
  match serviceOf service with
  | none => .refuse s .badValue
  | some sv =>
    let k := s.plant.get sv
    let t := s.setPlant sv { k with state := .unreferenced, reference := 0#32 }
    .ok (if k.state = .held then t.endCondition .plantHeld (.plant sv) else t) []

/-- RE_REFERENCE_PLANT (R60). -/
def execReReferencePlant (p : Port) (service : Byte) (s : State) : Host.Outcome State Fault Refusal :=
  .next (s.serve p (Instr.reReferencePlant p service).requestBytes (reReferencePlantWork service))

/-- The work of CONFIGURE PLANT (R60). -/
def configurePlantWork (service scale : Byte) (s : State) : Answer :=
  match serviceOf service with
  | none => .refuse s .badValue
  | some sv =>
    match scaleOf scale with
    | none => .refuse s .badValue
    | some x =>
      let k := s.plant.get sv
      if k.state = .live then .refuse s .wrongState else .ok (s.setPlant sv { k with scale := x }) []

/-- CONFIGURE_PLANT (R60). -/
def execConfigurePlant (p : Port) (service scale : Byte) (s : State) : Host.Outcome State Fault Refusal :=
  .next (s.serve p (Instr.configurePlant p service scale).requestBytes (configurePlantWork service scale))

/-- The work of SET RUNTIME LINE (R63). -/
def setRuntimeLineWork (line enable polarity : Byte) (s : State) : Answer :=
  match lineOf line with
  | none => .refuse s .badIndex
  | some l =>
    .ok { s with lines := s.lines.set l { s.lines.get l with enabled := flagOf enable, activeLow := flagOf polarity } } []

/-- SET_RUNTIME_LINE (R63). -/
def execSetRuntimeLine (p : Port) (line enable polarity : Byte) (s : State) : Host.Outcome State Fault Refusal :=
  .next (s.serve p (Instr.setRuntimeLine p line enable polarity).requestBytes (setRuntimeLineWork line enable polarity))

/-- The no-advance settings a body carries, clamped (R75). -/
def noAdvanceOf (openMin advanceMin : Half) (window : Byte) : NoAdvance :=
  { openMin := clamp 0 900 openMin.toNat, advanceMin := advanceMin.toNat, window := clamp 1 15 window.toNat }

/-- The work of SET NO-ADVANCE (R75). -/
def setNoAdvanceWork (openMin advanceMin : Half) (window : Byte) (s : State) : Answer :=
  let x := noAdvanceOf openMin advanceMin window
  .ok { s with noAdvance := x } x.bytes

/-- SET_NO_ADVANCE (R75). -/
def execSetNoAdvance (p : Port) (openMin advanceMin : Half) (window : Byte) (s : State) :
    Host.Outcome State Fault Refusal :=
  .next (s.serve p (Instr.setNoAdvance p openMin advanceMin window).requestBytes
    (setNoAdvanceWork openMin advanceMin window))

/-- The work of SET BAND (R80). -/
def setBandWork (band : Byte) (s : State) : Answer :=
  match bandOf band with
  | none => .refuse s .badValue
  | some x => .ok (s.setClock { s.clock with stagedBand := some x }) [x.code]

/-- SET_BAND (R80). -/
def execSetBand (p : Port) (band : Byte) (s : State) : Host.Outcome State Fault Refusal :=
  .next (s.serve p (Instr.setBand p band).requestBytes (setBandWork band))

/-- The work of SET INTERVAL LENGTH (R25). -/
def setIntervalLengthWork (minutes : Byte) (s : State) : Answer :=
  let n := clamp 5 60 minutes.toNat
  .ok (s.setClock { s.clock with stagedLength := some n }) [byteOf n]

/-- SET_INTERVAL_LENGTH (R25). -/
def execSetIntervalLength (p : Port) (minutes : Byte) (s : State) : Host.Outcome State Fault Refusal :=
  .next (s.serve p (Instr.setIntervalLength p minutes).requestBytes (setIntervalLengthWork minutes))

/-- The work of SET TOLERANCE (R85). -/
def setToleranceWork (tolerance : Half) (s : State) : Answer :=
  let n := clamp 0 255 tolerance.toNat
  .ok (s.setClock { s.clock with stagedTolerance := some n }) [byteOf n]

/-- SET_TOLERANCE (R85). -/
def execSetTolerance (p : Port) (tolerance : Half) (s : State) : Host.Outcome State Fault Refusal :=
  .next (s.serve p (Instr.setTolerance p tolerance).requestBytes (setToleranceWork tolerance))

/-- The work of SET LINE RATE (R38): a frame being received is abandoned without error. -/
def setLineRateWork (rate : Byte) (s : State) : Answer :=
  match rateOf rate with
  | none => .refuse s .badValue
  | some x => .ok { s with lineRate := x, receiver := .idle } []

/-- SET_LINE_RATE (R38). -/
def execSetLineRate (p : Port) (rate : Byte) (s : State) : Host.Outcome State Fault Refusal :=
  .next (s.serve p (Instr.setLineRate p rate).requestBytes (setLineRateWork rate))

/-- A MARK that stretches the running interval (R28). -/
def State.stretch (s : State) : State :=
  s.setClock { s.clock with elapsed := 0, flags := { s.clock.flags with stretched := true } }

/-- MARK takes a boundary under the half-length rule (R28). -/
def State.markTakesBoundary (s : State) : Bool :=
  s.clock.tickLoss || decide (s.clock.halfLength ≤ s.clock.elapsed)

/-- The work of MARK (R27, R28). Its action byte is 0 BOUNDARY, 1 STRETCH, 2 ALIGNED (R192). -/
def markWork (s : State) : Answer :=
  match s.clock.store with
  | .blank => .refuse s .wrongState
  | .aligning => .ok s.alignmentBoundary [2#8]
  | .running =>
    if s.settleInFlight then .refuse s .busy
    else if s.markTakesBoundary then .ok s.boundary [0#8]
    else .ok s.stretch [1#8]

/-- MARK (R27, R28). -/
def execMark (p : Port) (s : State) : Host.Outcome State Fault Refusal :=
  .next (s.serve p (Instr.mark p).requestBytes markWork)

end Sys2Proof.Machine
end

