-- ==== Sys2Proof/Machine/PortEvents.lean ====
section
/-!
DEFINITION. The port's own commands: TRANSACTION_START, TRANSACTION_END, PORT_FRAME_RAISE, STATUS, FETCH and
STREAM_RECORD_PREPARE (R169 to R183).
-/

namespace Sys2Proof.Machine

/-- The first `n` bytes clocked out of a reply, zeros after its end (R173, R179). -/
def shifted (n : Nat) (bytes : List Byte) : List Byte := (bytes ++ List.replicate (n - bytes.length) 0#8).take n

/-- The result, length and data of a reply as FETCH shifts them out (R179). -/
def replyBytes (r : Result) (data : List Byte) : List Byte := r.code :: bigEndian 2 data.length ++ data

/-- The effect of a full FETCH of a READY reply (R178, R180). -/
def PortState.fetchedFull (q : PortState) (r : Result) (data : List Byte) : PortState :=
  match q.stream with
  | none => { q with reply := .ready r data true }
  | some st =>
    if st.left = 0 then { q with reply := .ready .atEnd [] false, stream := none }
    else { q with reply := .pending, slot := .preparing }

/-- The effect of a full STATUS: the flags it reported set are cleared, REJECT and FRAME by the status byte and SETTLED by
the condition byte (R174). -/
def PortState.statusFull (q : PortState) (reported : Bool) : PortState :=
  { q with
    reject := q.reject && !q.statusByte.getLsbD 3
    frame := q.frame && !q.statusByte.getLsbD 2
    settled := q.settled && !reported }

/-- The effect taken at the last clock of the last byte served (R174, R179): a FETCH of a buffer that was not READY has
none. -/
def PortState.servedFull (q : PortState) : Serving → PortState
  | .status reported => q.statusFull reported
  | .fetch false => q
  | .fetch true =>
    match q.reply with
    | .ready r data _ => q.fetchedFull r data
    | .pending => q
    | .empty => q

/-- `n` bytes clocked while `rest` is still to be shifted out; clocking its last byte takes the effect, once. -/
def PortState.clockOut (q : PortState) (serving : Serving) (rest : List Byte) (n : Nat) : PortState :=
  let out := { q with transaction := .shiftOut serving (rest.drop n), dataOut := q.dataOut ++ shifted n rest }
  if rest ≠ [] ∧ rest.length ≤ n then out.servedFull serving else out

/-- STATUS served from the CODE state (R173): the image is copied at the eighth clock of byte 0, and `clocked` bytes of the
copy are shifted out. -/
def State.serveStatus (s : State) (p : Port) (clocked : Nat) : State :=
  let q := s.port p
  s.setPort p ({ q with dataOut := [] }.clockOut (.status q.settled) (s.extendedBytes p) clocked)

/-- What FETCH serves of a reply buffer (R179). -/
def ReplyBuffer.served : ReplyBuffer → Serving × List Byte
  | .ready r data _ => (.fetch true, replyBytes r data)
  | .pending => (.fetch false, replyBytes .pending [])
  | .empty => (.fetch false, replyBytes .pending [])

/-- FETCH served from the CODE state (R179), by the buffer as it stands when byte 0 completes. -/
def State.serveFetch (s : State) (p : Port) (clocked : Nat) : State :=
  let q := s.port p
  s.setPort p ({ q with dataOut := [] }.clockOut q.reply.served.1 q.reply.served.2 clocked)

/-- A frame error (R172). -/
def State.frameError (s : State) (p : Port) : State :=
  s.setPort p { s.port p with frame := true, framePending := true }

/-- A good frame reaches the request slot (R175). -/
def State.offer (s : State) (p : Port) (frame : List Byte) : State :=
  match (s.port p).slot with
  | .empty => s.takeRequest p frame
  | .request _ => s.rejectRequest p
  | .preparing => s.rejectRequest p

/-- The judgement of the bytes of a transaction still in CODE at chip-select's rise (R169, R171). -/
def State.judge (s : State) (p : Port) (bytes : List Byte) : State :=
  match bytes with
  | [] => s
  | code :: body =>
    if code = statusCode then s.serveStatus p body.length
    else if code = fetchCode then s.serveFetch p body.length
    else
      let t := s.setPort p { s.port p with transaction := .body, dataOut := List.replicate body.length 0#8 }
      if goodFrame bytes then t.offer p bytes else t.frameError p

/-- The port's chip-select is high and no transaction is open. -/
def State.deselect (s : State) (p : Port) : State :=
  s.setPort p { s.port p with selected := false, transaction := .idle }

/-- The bytes clocked are judged where a frame was being clocked, and shift out further bytes in SHIFT-OUT; LOCKED-OUT
leaves nothing to judge (R169). -/
def State.judgeOpen (s : State) (p : Port) (bytes : List Byte) : State :=
  match (s.port p).transaction with
  | .code => s.judge p bytes
  | .body => s.judge p bytes
  | .shiftOut serving rest => s.setPort p ((s.port p).clockOut serving rest bytes.length)
  | .lockedOut => s
  | .idle => s

/-- TRANSACTION_START (R169, R170): the fall of a chip-select that is low already is no event, and a stopped port sees
the pin alone. -/
def execTransactionStart (p : Port) (s : State) : Host.Outcome State Fault Refusal :=
  let q := s.port p
  .next (
    if q.selected then s
    else if s.interfacesRun then
      s.setPort p { q with selected := true, transaction := .code, statusByte := s.statusByteOf p, dataOut := [] }
    else s.setPort p { q with selected := true })

/-- TRANSACTION_END (R169, R171, R172, R175). -/
def execTransactionEnd (p : Port) (bytes : List Byte) (s : State) : Host.Outcome State Fault Refusal :=
  .next (
    if !(s.port p).selected then s
    else if s.interfacesRun then (s.judgeOpen p bytes).deselect p
    else s.setPort p { s.port p with selected := false })

/-- PORT_FRAME_RAISE (R157, R172): the grant for the raise alone, asked for when no request of the port waits. -/
def execPortFrameRaise (p : Port) (s : State) : Host.Outcome State Fault Refusal :=
  .next (s.operation (.port p) ((s.port p).framePending && !s.requestWaiting p) fun t => t)

/-- STATUS clocked at the port (R173, R174): from CODE its byte 0 and `clocked` bytes, in the SHIFT-OUT of a STATUS as many
more. -/
def State.clockStatus (s : State) (p : Port) (clocked : Nat) : State :=
  match (s.port p).transaction with
  | .code => s.serveStatus p clocked
  | .shiftOut (.status reported) rest => s.setPort p ((s.port p).clockOut (.status reported) rest clocked)
  | .shiftOut (.fetch _) _ => s
  | .body => s
  | .lockedOut => s
  | .idle => s

/-- FETCH clocked at the port (R179, R180), as for STATUS. -/
def State.clockFetch (s : State) (p : Port) (clocked : Nat) : State :=
  match (s.port p).transaction with
  | .code => s.serveFetch p clocked
  | .shiftOut (.fetch ready) rest => s.setPort p ((s.port p).clockOut (.fetch ready) rest clocked)
  | .shiftOut (.status _) _ => s
  | .body => s
  | .lockedOut => s
  | .idle => s

/-- STATUS (R173, R174). -/
def execStatus (p : Port) (clocked : Nat) (s : State) : Host.Outcome State Fault Refusal :=
  .next (if s.interfacesRun then s.clockStatus p clocked else s)

/-- FETCH (R179, R180). -/
def execFetch (p : Port) (clocked : Nat) (s : State) : Host.Outcome State Fault Refusal :=
  .next (if s.interfacesRun then s.clockFetch p clocked else s)

/-- A stream's next record prepared (R138, R180). -/
def State.prepareRecord (s : State) (p : Port) : State :=
  match (s.port p).stream with
  | none => s
  | some st =>
    let a : AccountNo := Fin.ofNat 48 st.next
    s.setPort p { s.port p with
      slot := .empty
      reply := .ready .ok (Account.bytes a (s.account a)) false
      stream := some { next := st.next + 1, left := st.left - 1 } }

/-- STREAM_RECORD_PREPARE (R180). -/
def execStreamRecordPrepare (p : Port) (s : State) : Host.Outcome State Fault Refusal :=
  .next (s.operation (.port p) (decide ((s.port p).slot = .preparing)) fun t => t.prepareRecord p)

end Sys2Proof.Machine
end

