-- ==== Sys2Proof/Machine/ReadRequests.lean ====
section
/-!
DEFINITION. The reads, accepted on either port (R20, R37, R61, R68, R84, R132, R137, R138, R165).
-/

namespace Sys2Proof.Machine

/-- The work of READ ACCOUNT (R20). -/
def readAccountWork (account : Byte) (s : State) : Answer :=
  match accountOf account with
  | none => .refuse s .badIndex
  | some a => .ok s (Account.bytes a (s.account a))

/-- READ_ACCOUNT (R20). -/
def execReadAccount (p : Port) (account : Byte) (s : State) : Host.Outcome State Fault Refusal :=
  .next (s.serve p (Instr.readAccount p account).requestBytes (readAccountWork account))

/-- A stream's count clamped to 1 and to the accounts that remain (R138). -/
def streamCount (first : AccountNo) (count : Byte) : Nat := clamp 1 (48 - first.val) count.toNat

/-- The work of STREAM ACCOUNTS (R138, R180). -/
def streamAccountsWork (p : Port) (first count : Byte) (s : State) : Answer :=
  match accountOf first with
  | none => .refuse s .badIndex
  | some a =>
    .ok (s.setPort p { s.port p with stream := some { next := a.val + 1, left := streamCount a count - 1 } })
      (Account.bytes a (s.account a))

/-- STREAM_ACCOUNTS (R138). -/
def execStreamAccounts (p : Port) (first count : Byte) (s : State) : Host.Outcome State Fault Refusal :=
  .next (s.serve p (Instr.streamAccounts p first count).requestBytes (streamAccountsWork p first count))

/-- The work of READ CLOCK (R37). -/
def readClockWork (s : State) : Answer := .ok (s.useFree 3) s.clockBytes

/-- READ_CLOCK (R37). -/
def execReadClock (p : Port) (s : State) : Host.Outcome State Fault Refusal :=
  .next (s.serve p (Instr.readClock p).requestBytes readClockWork)

/-- The work of READ METER (R61). -/
def readMeterWork (slot : Byte) (s : State) : Answer :=
  match slotOf slot with
  | none => .refuse s .badIndex
  | some m => .ok (s.useFree 2) (s.meterBytes m)

/-- READ_METER (R61). -/
def execReadMeter (p : Port) (slot : Byte) (s : State) : Host.Outcome State Fault Refusal :=
  .next (s.serve p (Instr.readMeter p slot).requestBytes (readMeterWork slot))

/-- The work of READ PLANT (R61). -/
def readPlantWork (service : Byte) (s : State) : Answer :=
  match serviceOf service with
  | none => .refuse s .badValue
  | some sv => .ok s (s.plant.get sv).bytes

/-- READ_PLANT (R61). -/
def execReadPlant (p : Port) (service : Byte) (s : State) : Host.Outcome State Fault Refusal :=
  .next (s.serve p (Instr.readPlant p service).requestBytes (readPlantWork service))

/-- The work of READ LINE (R61). -/
def readLineWork (s : State) : Answer := .ok s s.lineBytes

/-- READ_LINE (R61). -/
def execReadLine (p : Port) (s : State) : Host.Outcome State Fault Refusal :=
  .next (s.serve p (Instr.readLine p).requestBytes readLineWork)

/-- The work of READ RUNTIME (R68), the front end taking the line pins at these levels. -/
def readRuntimeWork (levels : Half) (s : State) : Answer :=
  let t := { s with linePins := some levels }
  .ok t t.runtimeBytes

/-- READ_RUNTIME (R68). -/
def execReadRuntime (p : Port) (levels : Half) (s : State) : Host.Outcome State Fault Refusal :=
  .next (s.serve p (Instr.readRuntime p levels).requestBytes (readRuntimeWork levels))

/-- The work of READ TARIFF (R84). -/
def readTariffWork (s : State) : Answer := .ok (s.useFree 2) s.tariffBytes

/-- READ_TARIFF (R84). -/
def execReadTariff (p : Port) (s : State) : Host.Outcome State Fault Refusal :=
  .next (s.serve p (Instr.readTariff p).requestBytes readTariffWork)

/-- The work of READ STATEMENT (R132). -/
def readStatementWork (s : State) : Answer :=
  match s.queue with
  | [] => ⟨s, .empty, s.statementHeader⟩
  | x :: _ => .ok s (s.statementHeader ++ x.bytes)

/-- READ_STATEMENT (R132). -/
def execReadStatement (p : Port) (s : State) : Host.Outcome State Fault Refusal :=
  .next (s.serve p (Instr.readStatement p).requestBytes readStatementWork)

/-- The work of READ INTERVAL SUMMARY (R137). -/
def readIntervalSummaryWork (age : Byte) (s : State) : Answer :=
  if 15 < age.toNat then .refuse s .badIndex
  else
    match s.ring[age.toNat]? with
    | some x => .ok s (byteOf s.ring.length :: x.bytes)
    | none => ⟨s, .wrongState, [byteOf s.ring.length]⟩

/-- READ_INTERVAL_SUMMARY (R137). -/
def execReadIntervalSummary (p : Port) (age : Byte) (s : State) : Host.Outcome State Fault Refusal :=
  .next (s.serve p (Instr.readIntervalSummary p age).requestBytes (readIntervalSummaryWork age))

/-- The work of READ FAULT MAP (R165). -/
def readFaultMapWork (s : State) : Answer := .ok s s.faults.mapBytes

/-- READ_FAULT_MAP (R165). -/
def execReadFaultMap (p : Port) (s : State) : Host.Outcome State Fault Refusal :=
  .next (s.serve p (Instr.readFaultMap p).requestBytes readFaultMapWork)

/-- The work of READ FAULT ENTRY (R165). -/
def readFaultEntryWork (position : Byte) (s : State) : Answer :=
  match positionOf position with
  | none => .refuse s .badIndex
  | some i =>
    match s.faults.entries.get i with
    | some e => .ok s (e.bytes i)
    | none => .refuse s .wrongState

/-- READ_FAULT_ENTRY (R165). -/
def execReadFaultEntry (p : Port) (position : Byte) (s : State) : Host.Outcome State Fault Refusal :=
  .next (s.serve p (Instr.readFaultEntry p position).requestBytes (readFaultEntryWork position))

end Sys2Proof.Machine
end

