-- ==== Sys2Proof/Machine/Compute.lean ====
section
/-!
DEFINITION. The arithmetic of COMPUTE (R69 to R77, R86, R96 to R104), from the bank and the readings alone.

`b` is the bank, `rs` the readings in account order, `sv` the service.
-/

namespace Sys2Proof.Machine

/-- The account is recorded OCCUPIED or CLOSING: what is its own stands (R6). -/
def Bank.standing (b : Bank) (a : AccountNo) : Bool :=
  match (b.accounts.get a).recorded with
  | .occupied => true
  | .closing => true
  | .vacant => false
  | .opening => false
  | .final => false
  | .joined => false

/-- The account is recorded JOINED. -/
def Bank.joined (b : Bank) (a : AccountNo) : Bool := decide ((b.accounts.get a).recorded = .joined)

/-- The account is recorded JOINED and its lower account OCCUPIED or CLOSING (R19). -/
def Bank.extendsLower (b : Bank) (a : AccountNo) : Bool :=
  b.joined a && (lowerOf a).any b.standing

/-- The account's services are metered or estimated (R69, R97). -/
def Bank.settled (b : Bank) (a : AccountNo) : Bool := b.standing a || b.extendsLower a

/-- The account service's own slot: the slot in its bank meter position (R97). -/
def Bank.ownSlot (b : Bank) (sv : Service) (a : AccountNo) : Option SlotNo := (b.accounts.get a).meterPos.get sv

/-- The own slot is recorded in this state. -/
def Bank.ownSlotIs (b : Bank) (sv : Service) (a : AccountNo) (st : MeterState) : Bool :=
  (b.ownSlot sv a).any fun m => decide ((b.slots.get m).state = st)

/-- How the account service is charged (R69, R97). -/
def Bank.kind (b : Bank) (sv : Service) (a : AccountNo) : ChargeKind :=
  if !b.settled a then .redirected
  else if (b.accounts.get a).settings.basis.get sv = .metered ∧ b.ownSlotIs sv a .live = true then .metered
  else .estimated

/-- The own slot's accumulation, 0 with no own slot. -/
def Bank.ownEnergy (b : Bank) (sv : Service) (a : AccountNo) : Nat :=
  match b.ownSlot sv a with
  | some m => (b.slots.get m).accumulation.get sv
  | none => 0

/-- The detached accumulations: those owned by the account in any slot other than its own (R97). -/
def Bank.detached (b : Bank) (sv : Service) (a : AccountNo) : Nat :=
  sumOver 64 fun m =>
    if (b.slots.get m).owner = .account a ∧ b.ownSlot sv a ≠ some m then (b.slots.get m).accumulation.get sv else 0

/-! ## Estimates (R70, R71) and the no-advance check (R76, R77) -/

/-- The open seconds of the account service's mapped line: none when no line is mapped or its record is DISABLED. -/
def Bank.openSeconds (b : Bank) (sv : Service) (a : AccountNo) : Option Nat :=
  ((b.accounts.get a).settings.line.get sv).bind fun l => b.lines.get l

/-- What COMPUTE read of an account service. -/
def readingOf (rs : List (PerService Reading)) (sv : Service) (a : AccountNo) : Reading :=
  (rs.getD a.val ⟨⟨0, [], 0⟩, ⟨0, [], 0⟩⟩).get sv

/-- The floor of the mean of a metered history, 0 when it is empty (R71). -/
def historyMean (h : List Nat) : Nat := if h.isEmpty then 0 else h.sum / h.length

/-- An estimate, its kind, the carry after it and whether NO-BASIS is raised for it (R70, R71). -/
structure Estimate where
  kind : EstimateKind
  energy : Nat
  carry : Nat
  noBasis : Bool
  deriving DecidableEq, Repr

/-- The runtime estimate of q watt-seconds (R70). -/
def runtimeEstimate (seconds power carry : Nat) : Estimate :=
  { kind := .runtime, energy := (seconds * power + carry) / 3600, carry := (seconds * power + carry) % 3600, noBasis := false }

/-- The fallback estimate (R71). -/
def fallbackEstimate (r : Reading) : Estimate :=
  { kind := .fallback, energy := historyMean r.history, carry := r.carry, noBasis := r.history.isEmpty }

/-- The estimate an account service has if it is estimated. -/
def Bank.estimate (b : Bank) (rs : List (PerService Reading)) (sv : Service) (a : AccountNo) : Estimate :=
  let power := (b.accounts.get a).settings.power.get sv
  match b.openSeconds sv a with
  | some seconds =>
    if power ≠ 0 then runtimeEstimate seconds power (readingOf rs sv a).carry else fallbackEstimate (readingOf rs sv a)
  | none => fallbackEstimate (readingOf rs sv a)

/-- The no-advance check of a metered account service (R76, R77): the new streak and whether the check trips. -/
def NoAdvance.check (x : NoAdvance) (seconds : Option Nat) (energy streak : Nat) : Nat × Bool :=
  match seconds with
  | some c =>
    if x.openMin = 0 ∨ c < x.openMin then (streak, false)
    else if energy < x.advanceMin then
      let raised := addSat 15 streak 1
      if x.window ≤ raised then (0, true) else (raised, false)
    else (0, false)
  | none => (streak, false)

/-! ## Direct energy (R97, R98) -/

/-- The metered direct energy of an account service (R97). -/
def Bank.meteredIn (b : Bank) (sv : Service) (a : AccountNo) : Nat :=
  (match b.kind sv a with
    | .metered => b.ownEnergy sv a
    | .estimated => 0
    | .redirected => b.ownEnergy sv a) + b.detached sv a

/-- The estimated direct energy of an account service (R97). -/
def Bank.estimatedIn (b : Bank) (rs : List (PerService Reading)) (sv : Service) (a : AccountNo) : Nat :=
  match b.kind sv a with
  | .estimated => (b.estimate rs sv a).energy
  | .metered => 0
  | .redirected => 0

/-- The account that an account's direct energy is credited to (R98). -/
def Bank.creditTo (b : Bank) (a : AccountNo) : AccountNo :=
  if b.standing a then a
  else if b.extendsLower a then (lowerOf a).getD 0
  else 0

/-- The sum of `f` over the accounts credited to `a`. -/
def Bank.credited (b : Bank) (f : AccountNo → Nat) (a : AccountNo) : Nat :=
  sumOver 48 fun x => if b.creditTo x = a then f x else 0

/-- d_a (R98). -/
def Bank.direct (b : Bank) (rs : List (PerService Reading)) (sv : Service) (a : AccountNo) : Nat :=
  b.credited (b.meteredIn sv) a + b.credited (b.estimatedIn rs sv) a

/-- Metered D (R98). -/
def Bank.meteredD (b : Bank) (sv : Service) : Nat := sumOver 48 (b.meteredIn sv)

/-- Estimated D (R98). -/
def Bank.estimatedD (b : Bank) (rs : List (PerService Reading)) (sv : Service) : Nat :=
  sumOver 48 (b.estimatedIn rs sv)

/-! ## The pools (R99) -/

/-- C_p: the accumulations whose owner is the pool (R57). -/
def Bank.poolEnergy (b : Bank) (sv : Service) (p : Pool) : Nat :=
  sumOver 64 fun m => if (b.slots.get m).owner = .pool p then (b.slots.get m).accumulation.get sv else 0

/-- The account's weight in a pool; a JOINED account has none (R19). -/
def Bank.weight (b : Bank) (p : Pool) (a : AccountNo) : Nat :=
  if b.joined a then 0
  else
    match p with
    | .retail => (b.accounts.get a).settings.retailWeight
    | .office => (b.accounts.get a).settings.officeWeight

/-- W_p. -/
def Bank.weightSum (b : Bank) (p : Pool) : Nat := sumOver 48 (b.weight p)

/-- The account's floor share of a pool, whoever it goes to; 0 for all when W_p is 0. -/
def Bank.poolShare (b : Bank) (sv : Service) (p : Pool) (a : AccountNo) : Nat :=
  if b.weightSum p = 0 then 0 else b.poolEnergy sv p * b.weight p a / b.weightSum p

/-- The pool remainder: what the floors leave, the whole pool when W_p is 0. -/
def Bank.poolRemainder (b : Bank) (sv : Service) (p : Pool) : Nat :=
  b.poolEnergy sv p - sumOver 48 (b.poolShare sv p)

/-- Both pool shares of an account. -/
def Bank.shares (b : Bank) (sv : Service) (a : AccountNo) : Nat :=
  b.poolShare sv .retail a + b.poolShare sv .office a

/-- The account an account's pool shares go to (R99). -/
def Bank.shareTo (b : Bank) (a : AccountNo) : AccountNo := if b.standing a then a else 0

/-- The common energy of an account (R99, R102). -/
def Bank.common (b : Bank) (sv : Service) (a : AccountNo) : Nat :=
  (sumOver 48 fun x => if b.shareTo x = a then b.shares sv x else 0) +
  if a = 0 then b.poolRemainder sv .retail + b.poolRemainder sv .office else 0

/-- C. -/
def Bank.commonC (b : Bank) (sv : Service) : Nat := b.poolEnergy sv .retail + b.poolEnergy sv .office

/-! ## Loss and excess (R100, R101, R86) -/

/-- P: the banked delta when a reading was posted, 0 otherwise (R88, R100). -/
def Bank.plantP (b : Bank) (sv : Service) : Nat := if (b.plant.get sv).posted then (b.plant.get sv).delta else 0

/-- D + C. -/
def Bank.accounted (b : Bank) (rs : List (PerService Reading)) (sv : Service) : Nat :=
  b.meteredD sv + b.estimatedD rs sv + b.commonC sv

/-- L: P - D - C, and 0 when D + C exceeds P. -/
def Bank.lossL (b : Bank) (rs : List (PerService Reading)) (sv : Service) : Nat := b.plantP sv - b.accounted rs sv

/-- X: D + C - P, and 0 when P is at least D + C. -/
def Bank.excess (b : Bank) (rs : List (PerService Reading)) (sv : Service) : Nat := b.accounted rs sv - b.plantP sv

/-- The account's direct energy in the loss base, 0 when it takes no part (R101). -/
def Bank.lossPart (b : Bank) (rs : List (PerService Reading)) (sv : Service) (a : AccountNo) : Nat :=
  if b.standing a && (b.accounts.get a).settings.lossShare then b.direct rs sv a else 0

/-- B (R101). -/
def Bank.lossBase (b : Bank) (rs : List (PerService Reading)) (sv : Service) : Nat := sumOver 48 (b.lossPart rs sv)

/-- The account's floor share of the loss; 0 for all when B is 0. -/
def Bank.lossShare (b : Bank) (rs : List (PerService Reading)) (sv : Service) (a : AccountNo) : Nat :=
  if b.lossBase rs sv = 0 then 0 else b.lossL rs sv * b.lossPart rs sv a / b.lossBase rs sv

/-- The loss remainder. -/
def Bank.lossRemainder (b : Bank) (rs : List (PerService Reading)) (sv : Service) : Nat :=
  b.lossL rs sv - sumOver 48 (b.lossShare rs sv)

/-- The loss energy of an account (R101, R102). -/
def Bank.loss (b : Bank) (rs : List (PerService Reading)) (sv : Service) (a : AccountNo) : Nat :=
  b.lossShare rs sv a + if a = 0 then b.lossRemainder rs sv else 0

/-- The fault the balance check records (R86). -/
def Bank.balanceFault (b : Bank) (rs : List (PerService Reading)) (sv : Service) : Option BalanceFault :=
  if b.excess rs sv = 0 then none
  else if (b.plant.get sv).posted then
    if b.tolerance * b.plantP sv < b.excess rs sv * 1000 then some .excess else none
  else some .plantLate

/-! ## The results (R96, R103) -/

/-- The cost rate of the interval (R83). -/
def Bank.price (b : Bank) (sv : Service) : Nat := (b.prices.get sv).get b.band

/-- The energy allocated to an account (R103). -/
def ServiceResult.allocation (r : ServiceResult) : Nat := r.metered + r.estimated + r.common + r.loss

/-- The account service's own working-state results. -/
def Bank.check (b : Bank) (rs : List (PerService Reading)) (sv : Service) (a : AccountNo) : Nat × Bool :=
  match b.kind sv a with
  | .metered => b.noAdvance.check (b.openSeconds sv a) (b.ownEnergy sv a) (readingOf rs sv a).streak
  | .estimated => ((readingOf rs sv a).streak, false)
  | .redirected => ((readingOf rs sv a).streak, false)

/-- The account service's estimate, present only when it is estimated. -/
def Bank.estimateOf (b : Bank) (rs : List (PerService Reading)) (sv : Service) (a : AccountNo) : Option Estimate :=
  match b.kind sv a with
  | .estimated => some (b.estimate rs sv a)
  | .metered => none
  | .redirected => none

/-- An estimate as the results keep it (R96). -/
def Estimate.own (e : Estimate) : OwnEstimate := { kind := e.kind, energy := e.energy }

/-- The computed results of one account and service (R96). -/
def Bank.serviceResult (b : Bank) (rs : List (PerService Reading)) (a : AccountNo) (sv : Service) : ServiceResult :=
  let metered := b.credited (b.meteredIn sv) a
  let estimated := b.credited (b.estimatedIn rs sv) a
  let common := b.common sv a
  let loss := b.loss rs sv a
  let e := b.estimateOf rs sv a
  let c := b.check rs sv a
  { kind := b.kind sv a
    metered := metered
    estimated := estimated
    common := common
    loss := loss
    cost := (metered + estimated + common + loss) * b.price sv
    estimate := e.map Estimate.own
    balanceAdd := if b.ownSlotIs sv a .late then (e.map Estimate.energy).getD 0 else 0
    newCarry := (e.map Estimate.carry).getD (readingOf rs sv a).carry
    entry := if b.kind sv a = .metered then some (b.ownEnergy sv a) else none
    newStreak := c.1
    trip := if c.2 then b.ownSlot sv a else none
    noBasis := (e.map Estimate.noBasis).getD false }

/-- Some estimate is credited to the account (R72): one of its own account services, or of its JOINED upper
account's, is estimated. -/
def Bank.estimateCredited (b : Bank) (a : AccountNo) : Bool :=
  (List.finRange 48).any fun x => decide (b.creditTo x = a) &&
    (decide (b.kind .heating x = .estimated) || decide (b.kind .cooling x = .estimated))

/-- The interval figures of one service (R115). -/
def Bank.figures (b : Bank) (rs : List (PerService Reading)) (sv : Service) : Figures :=
  { price := b.price sv
    plant := b.plantP sv
    posted := (b.plant.get sv).posted
    meteredD := b.meteredD sv
    estimatedD := b.estimatedD rs sv
    retail := b.poolEnergy sv .retail
    office := b.poolEnergy sv .office
    loss := b.lossL rs sv
    excess := b.excess rs sv
    remainder := b.poolRemainder sv .retail + b.poolRemainder sv .office + b.lossRemainder rs sv
    fault := b.balanceFault rs sv }

/-- Everything COMPUTE works out (R96). -/
def Bank.results (b : Bank) (rs : List (PerService Reading)) : Results :=
  { accounts := Table.ofFn fun a => PerService.ofFn (b.serviceResult rs a)
    estimateCredited := Table.ofFn b.estimateCredited
    figures := PerService.ofFn (b.figures rs) }

end Sys2Proof.Machine
end

