-- ==== Sys2Proof/Machine/SettleEvents.lean ====
section
/-!
DEFINITION. The operations of the Settle Engine: COMPUTE_READ (R96), ACCOUNT_POST (R107 to R111), CLOSEOUT_VISIT,
PERIOD_STEP (R114, R127 to R130) and SUMMARY_WRITE (R115).
-/

namespace Sys2Proof.Machine

/-! ## COMPUTE -/

/-- What COMPUTE reads of an account record (R96). -/
def Account.reading (r : Account) : PerService Reading :=
  r.work.map fun w => { carry := w.carry, history := w.history, streak := w.streak }

/-- The next account read; after the last, the results are held and POST begins at account 1 (R94, R96). -/
def State.computeRead (s : State) : State :=
  match s.settle with
  | .compute b rs =>
    let rs' := rs ++ [(s.account (Fin.ofNat 48 rs.length)).reading]
    { s with settle := if rs'.length < 48 then .compute b rs' else .post b (b.results rs') 1 }
  | .idle => s
  | .post _ _ _ => s
  | .closeout _ _ _ _ => s

/-- The settle is in COMPUTE. -/
def State.inCompute (s : State) : Bool :=
  match s.settle with
  | .compute _ _ => true
  | .idle => false
  | .post _ _ _ => false
  | .closeout _ _ _ _ => false

/-- COMPUTE_READ (R96). -/
def execComputeRead (s : State) : Host.Outcome State Fault Refusal :=
  .next (s.operation .settle s.inCompute State.computeRead)

/-! ## One account's post (R108 to R110) -/

/-- The components of one service added to its energy totals (R103, R108, R110). -/
def EnergyTotals.post (t : EnergyTotals) (x : ServiceResult) : EnergyTotals :=
  { metered := addSat Config.energyTotalMax t.metered x.metered
    estimated := addSat Config.energyTotalMax t.estimated x.estimated
    common := addSat Config.energyTotalMax t.common x.common
    loss := addSat Config.energyTotalMax t.loss x.loss }

/-- Some energy total of the service would pass its maximum (R110). -/
def EnergyTotals.stops (t : EnergyTotals) (x : ServiceResult) : Bool :=
  decide (Config.energyTotalMax < t.metered + x.metered) || decide (Config.energyTotalMax < t.estimated + x.estimated) ||
  decide (Config.energyTotalMax < t.common + x.common) || decide (Config.energyTotalMax < t.loss + x.loss)

/-- The cost added to the total of the banked band (R103, R108, R110). -/
def postCost (t : PerBand Nat) (band : Band) (cost : Nat) : PerBand Nat :=
  t.set band (addSat Config.costTotalMax (t.get band) cost)

/-- Some total of the account would pass its maximum in the post (R110). -/
def Totals.stops (t : Totals) (band : Band) (x : PerService ServiceResult) : Bool :=
  t.energy.heating.stops x.heating || t.energy.cooling.stops x.cooling ||
  decide (Config.costTotalMax < t.cost.heating.get band + x.heating.cost) ||
  decide (Config.costTotalMax < t.cost.cooling.get band + x.cooling.cost)

/-- The totals, counts and flags after the post of an account recorded OCCUPIED or CLOSING (R108, R110). -/
def Totals.post (t : Totals) (b : Bank) (x : PerService ServiceResult) (estimated : Bool) : Totals :=
  { energy := ⟨t.energy.heating.post x.heating, t.energy.cooling.post x.cooling⟩
    cost := ⟨postCost t.cost.heating b.band x.heating.cost, postCost t.cost.cooling b.band x.cooling.cost⟩
    occupied := addSat Config.max32 t.occupied 1
    estimated := if estimated then addSat Config.max32 t.estimated 1 else t.estimated
    interrupted := if b.flags.interrupted then addSat Config.max32 t.interrupted 1 else t.interrupted
    saturated := t.saturated || t.stops b.band x
    active := true }

/-- The working state of an account service after its post: written when the service was metered or estimated (R70,
R73, R74, R76, R78). -/
def Working.post (w : Working) (x : ServiceResult) : Working :=
  if x.kind = .redirected then w
  else
    { carry := x.newCarry
      balance := addSat Config.max32 w.balance x.balanceAdd
      history := (match x.entry with | some e => e :: w.history | none => w.history).take Config.historyMax
      streak := x.newStreak }

/-- The account record after its post (R107 to R109). -/
def Account.post (r : Account) (b : Bank) (a : AccountNo) (x : PerService ServiceResult) (estimated : Bool) : Account :=
  { r with
    totals := if b.standing a then r.totals.post b x estimated else r.totals
    work := ⟨r.work.heating.post x.heating, r.work.cooling.post x.cooling⟩
    settledThrough := b.interval }

/-- The NO-BASIS raise of one account service (R71). -/
def State.raiseNoBasis (s : State) (b : Bank) (a : AccountNo) (x : ServiceResult) : State :=
  if x.noBasis then s.raise .noBasis (.account a) b.interval else s

/-- The trip of one account service (R77): the event, and the slot SUSPECT when it is LIVE and still assigned to the
account service. -/
def State.tripSlot (s : State) (b : Bank) (a : AccountNo) (sv : Service) (x : ServiceResult) : State :=
  match x.trip with
  | none => s
  | some m =>
    let t := s.raise .meterNoAdvance (.meter m) b.interval
    if (t.meter m).state = .live ∧ (t.account a).meterPos.get sv = some m then t.makeSuspect m b.interval else t

/-- The BALANCE-EXCESS or PLANT-LATE raise of one service (R86, R111). -/
def State.raiseBalance (s : State) (b : Bank) (sv : Service) (x : Figures) : State :=
  match x.fault with
  | none => s
  | some .excess => s.raise .balanceExcess (.plant sv) b.interval
  | some .plantLate => s.raise .plantLate (.plant sv) b.interval

/-- ACCUM-SATURATED, once in a post that stops some total (R110). -/
def State.raiseSaturated (s : State) (b : Bank) (a : AccountNo) (stopped : Bool) : State :=
  if stopped then s.raise .accumSaturated (.account a) b.interval else s

/-- The account in post order after `a`: 1, 2, …, 47 and then 0 (R107). -/
def nextPost (a : AccountNo) : AccountNo := a + 1

/-- The record and the faults of one account's post, the settle state apart (R107 to R111). -/
def State.postRecord (s : State) (b : Bank) (r : Results) (a : AccountNo) : State :=
  let x := r.accounts.get a
  let old := s.account a
  let t := s.setAccount a (old.post b a x (r.estimateCredited.get a))
  let t := t.raiseSaturated b a (b.standing a && old.totals.stops b.band x)
  let t := (t.raiseNoBasis b a x.heating).raiseNoBasis b a x.cooling
  let t := (t.tripSlot b a .heating x.heating).tripSlot b a .cooling x.cooling
  if a = 0 then
    (t.raiseBalance b .heating r.figures.heating).raiseBalance b .cooling r.figures.cooling
  else t

/-- One post: the record, then the cursor, or CLOSEOUT after account 0 (R107, R111, R114). -/
def State.accountPost (s : State) : State :=
  match s.settle with
  | .post b r a =>
    { s.postRecord b r a with settle := if a = 0 then .closeout b r 0 false else .post b r (nextPost a) }
  | .idle => s
  | .compute _ _ => s
  | .closeout _ _ _ _ => s

/-- The settle is in POST. -/
def State.inPost (s : State) : Bool :=
  match s.settle with
  | .post _ _ _ => true
  | .idle => false
  | .compute _ _ => false
  | .closeout _ _ _ _ => false

/-- ACCOUNT_POST (R107). -/
def execAccountPost (s : State) : Host.Outcome State Fault Refusal :=
  .next (s.operation .settle s.inPost State.accountPost)

/-! ## CLOSEOUT (R114, R127 to R130) -/

/-- A statement built from the record as the same settle's post left it (R130). -/
def Account.statement (r : Account) (a : AccountNo) (kind : StatementKind) (period n : Nat) : Statement :=
  { account := a, kind := kind, saturated := r.totals.saturated, containsEstimate := decide (0 < r.totals.estimated),
    tag := r.tag.getD 0#32, period := period, firstInterval := r.firstInterval, lastInterval := n,
    occupied := r.totals.occupied, estimated := r.totals.estimated, interrupted := r.totals.interrupted,
    energy := r.totals.energy, cost := r.totals.cost }

/-- The statement a visit issues (section 7.4). -/
def Bank.statementWork (b : Bank) (a : AccountNo) (active : Bool) : Option StatementKind :=
  match (b.accounts.get a).recorded with
  | .closing => some .final
  | .occupied => if b.periodEnd && active then some .period else none
  | .vacant => none
  | .opening => none
  | .final => none
  | .joined => none

/-- The record after a visit that issues a statement: totals reset, and the first interval of a PERIOD visit (R127,
R129). -/
def Account.visited (r : Account) (kind : StatementKind) (n : Nat) : Account :=
  match kind with
  | .final => r.resetTotals
  | .period =>
    { r.resetTotals with
      firstInterval := if r.tenancy = .occupied ∨ r.tenancy = .closing then nextInterval n else r.firstInterval }

/-- The statement work of one visit. -/
def State.visitAccount (s : State) (b : Bank) (a : AccountNo) : State :=
  let r := s.account a
  match b.statementWork a r.totals.active with
  | none => s
  | some kind =>
    { s.setAccount a (r.visited kind b.interval) with
      queue := s.queue ++ [r.statement a kind s.period b.interval] }

/-- One visit, with its progress (R114). -/
def State.closeoutVisit (s : State) : State :=
  match s.settle with
  | .closeout b r next done =>
    { s.visitAccount b (Fin.ofNat 48 next) with settle := .closeout b r (next + 1) done }
  | .idle => s
  | .compute _ _ => s
  | .post _ _ _ => s

/-- CLOSEOUT has accounts left to visit. -/
def State.visitsLeft (s : State) : Bool :=
  match s.settle with
  | .closeout _ _ next _ => decide (next < 48)
  | .idle => false
  | .compute _ _ => false
  | .post _ _ _ => false

/-- CLOSEOUT_VISIT (R114). -/
def execCloseoutVisit (s : State) : Host.Outcome State Fault Refusal :=
  .next (s.operation .settle s.visitsLeft State.closeoutVisit)

/-- The period after `n`: 65,535 is followed by 1 (R119). -/
def nextPeriod (n : Nat) : Nat := if n = 65535 then 1 else n + 1

/-- The period step (R114). -/
def State.periodStep (s : State) : State :=
  match s.settle with
  | .closeout b r next _ =>
    { s with period := if b.periodEnd then nextPeriod s.period else s.period, settle := .closeout b r next true }
  | .idle => s
  | .compute _ _ => s
  | .post _ _ _ => s

/-- CLOSEOUT has made its visits, and its period step is done or not. -/
def State.visitsDone (s : State) (stepped : Bool) : Bool :=
  match s.settle with
  | .closeout _ _ next done => decide (48 ≤ next) && decide (done = stepped)
  | .idle => false
  | .compute _ _ => false
  | .post _ _ _ => false

/-- PERIOD_STEP (R114). -/
def execPeriodStep (s : State) : Host.Outcome State Fault Refusal :=
  .next (s.operation .settle (s.visitsDone false) State.periodStep)

/-- The interval summary (R115). -/
def Bank.summary (b : Bank) (r : Results) : Summary :=
  { interval := b.interval, band := b.band, flags := b.flags, periodEnd := b.periodEnd, figures := r.figures }

/-- The port's SETTLED flag set (R95). -/
def PortState.setSettled (q : PortState) : PortState := { q with settled := true }

/-- The summary written at age 0, the settle IDLE and both SETTLED flags set (R95, R115). -/
def State.summaryWrite (s : State) : State :=
  match s.settle with
  | .closeout b r _ _ =>
    { s with
      ring := (b.summary r :: s.ring).take Config.ringMax
      settle := .idle
      ports := ⟨s.ports.plant.setSettled, s.ports.billing.setSettled⟩ }
  | .idle => s
  | .compute _ _ => s
  | .post _ _ _ => s

/-- SUMMARY_WRITE (R115). -/
def execSummaryWrite (s : State) : Host.Outcome State Fault Refusal :=
  .next (s.operation .settle (s.visitsDone true) State.summaryWrite)

end Sys2Proof.Machine
end

