-- ==== Sys2Proof/Machine/SupplyEvents.lean ====
section
/-!
DEFINITION. The events at the Supply Supervisor: VMAIN and VBAK against their thresholds (R185 to R188), RESETn (R189),
the power-on reset (R190), and what stopping and restarting the interfaces does (R183, R43, R116, R117, R147).
-/

namespace Sys2Proof.Machine

/-! ## Stopping (R186) -/

/-- A port stopped: transaction, request, reply, stream and flags gone; its chip-select pin, its latched status byte and
its enable set as they were (R183, R186). -/
def PortState.stop (q : PortState) : PortState :=
  { q with
    transaction := .idle, dataOut := [], slot := .empty, reply := .empty, stream := none
    reject := false, frame := false, settled := false, framePending := false }

/-- INTERRUPTED set on the interval running, in ALIGNING and RUNNING (R29). -/
def Clock.interrupt (c : Clock) : Clock :=
  if c.store = .blank then c else { c with flags := { c.flags with interrupted := true } }

/-- The interfaces stop (R186, R189): ports, receiver with its buffers and the LINE-OVERRUN raises that wait, arbiter; the
runtime front end, which then holds no level (R62); the running interval is flagged. R147 names the arbiter's grant state,
waiting set and yield set alone: that a port turn owed under R144 ends with them is a DESIGN CHOICE (log entry 22). -/
def State.stopInterfaces (s : State) : State :=
  { s with
    ports := ⟨s.ports.plant.stop, s.ports.billing.stop⟩
    receiver := .idle
    capture := []
    overruns := 0
    arbiter := Arbiter.initial
    linePins := none
    clock := s.clock.interrupt }

/-- The supervisor's state replaced. -/
def State.setSupervisor (s : State) (v : Supervisor) : State := { s with supervisor := v }

/-! ## Restarting (R188) -/

/-- A port starts in IDLE, or LOCKED-OUT with its chip-select low (R183). -/
def PortState.restart (q : PortState) : PortState :=
  { q with transaction := if q.selected then .lockedOut else .idle }

/-- The first account in post order whose settled-through value is not `n` (R117). -/
def State.firstUnposted (s : State) (n : Nat) : Option AccountNo :=
  ((List.finRange 48).map fun i => i + 1).find? fun a => decide ((s.account a).settledThrough ≠ n)

/-- A suspended settle resumes (R117). -/
def State.resumeSettle (s : State) : State :=
  match s.settle with
  | .idle => s
  | .compute b _ => { s with settle := .compute b [] }
  | .post b r cursor => { s with settle := .post b r ((s.firstUnposted b.interval).getD cursor) }
  | .closeout _ _ _ _ => s

/-- SETTLE-RESUMED for a settle whose suspension included RESETn low, recording the bank's interval (R117, R157). -/
def State.raiseResumed (s : State) : State :=
  match s.bank with
  | some b => if s.supervisor.resetSeen then s.raise .settleResumed .store b.interval else s
  | none => s

/-- The interfaces restart, in RUN with RESETn high (R188, R189): SUPPLY-HOLD for each exit from HOLD since the last
restart, then SETTLE-RESUMED. -/
def State.restart (s : State) : State :=
  let t := { s with ports := ⟨s.ports.plant.restart, s.ports.billing.restart⟩, receiver := .idle }
  let t := (t.raiseTimes s.supervisor.holdExits .supplyHold .supply s.clock.interval).raiseResumed.resumeSettle
  t.setSupervisor { s.supervisor with holdExits := 0, resetSeen := false }

/-- The interfaces restart now if RESETn is high, and otherwise at its release (R188). -/
def State.restartIfReleased (s : State) : State := if s.supervisor.resetHigh then s.restart else s

/-! ## VMAIN and VBAK -/

/-- VMAIN falls below the hold threshold (R185, R186): in RUN the supply enters HOLD, or OFF with BACKUP-LOW set, once
the operation in progress is complete; elsewhere the recovery test is broken. Interfaces that RESETn already stopped stop
nothing further. -/
def State.mainFall (s : State) : State :=
  match s.supervisor.supply with
  | .run =>
    let t := if s.supervisor.resetHigh then s.stopInterfaces else s
    t.setSupervisor { s.supervisor with
      supply := if s.supervisor.backupLow then .off else .hold, main := .belowHold, recovery := false }
  | .hold => s.setSupervisor { s.supervisor with main := .belowHold, recovery := false }
  | .off => s.setSupervisor { s.supervisor with main := .belowHold, recovery := false }

/-- VMAIN_FALL (R185). -/
def execVmainFall (s : State) : Host.Outcome State Fault Refusal := .next s.mainFall

/-- VMAIN_RISE (R185): above the run threshold the recovery test starts, or starts again; RUN has none. -/
def execVmainRise (s : State) : Host.Outcome State Fault Refusal :=
  .next (s.setSupervisor { s.supervisor with main := .aboveRun, recovery := decide (s.supervisor.supply ≠ .run) })

/-- VMAIN_FALL_BELOW_RUN_THRESHOLD (R185): the recovery test is broken. -/
def execVmainFallBelowRunThreshold (s : State) : Host.Outcome State Fault Refusal :=
  .next (s.setSupervisor { s.supervisor with main := .between, recovery := false })

/-- HOLD_EXIT (R188): the recovery test expires in HOLD. -/
def execHoldExit (s : State) : Host.Outcome State Fault Refusal :=
  .next (
    if s.supervisor.supply = .hold ∧ s.supervisor.recovery = true then
      (s.setSupervisor { s.supervisor with
        supply := .run, recovery := false, holdExits := s.supervisor.holdExits + 1 }).restartIfReleased
    else s)

/-- BACKUP_LOW_CHANGE (R185, R187): a set flag in HOLD loses the store; with VMAIN above the run threshold the recovery
test of OFF runs from there (log entry 20). -/
def execBackupLowChange (low : Bool) (s : State) : Host.Outcome State Fault Refusal :=
  .next (
    if s.supervisor.supply = .hold ∧ low = true then
      s.setSupervisor { s.supervisor with
        backupLow := true, supply := .off, recovery := decide (s.supervisor.main = .aboveRun) }
    else s.setSupervisor { s.supervisor with backupLow := low })

/-! ## RESETn (R189) -/

/-- WARM_RESET_ASSERT (R189): RESETn goes low. In RUN the interfaces stop once the operation in progress is complete; in
HOLD they have stopped already. -/
def execWarmResetAssert (s : State) : Host.Outcome State Fault Refusal :=
  .next (
    if s.supervisor.resetHigh then
      let t := if s.supervisor.supply = .run then s.stopInterfaces else s
      t.setSupervisor { s.supervisor with resetHigh := false, resetSeen := true }
    else s)

/-- WARM_RESET_RELEASE (R188, R189): RESETn goes high; in RUN the interfaces restart. -/
def execWarmResetRelease (s : State) : Host.Outcome State Fault Refusal :=
  .next (
    if s.supervisor.resetHigh then s
    else
      let t := s.setSupervisor { s.supervisor with resetHigh := true }
      if s.supervisor.supply = .run then t.restart else t)

/-! ## Power-on reset (R190) -/

/-- A port after power-on reset with its chip-select as it stands (R184): LOCKED-OUT where it is low and the port runs
at once; a port that RESETn holds stopped finds that out at the release. -/
def PortState.powerOn (selected runs : Bool) : PortState :=
  { PortState.initial with
    selected := selected, transaction := if selected && runs then .lockedOut else .idle }

/-- Every piece of state at its power-on value, the levels of the pins and what waits outside the part apart (R190). -/
def State.powerOn (s : State) : State :=
  let v := s.supervisor
  { State.reset with
    ports := ⟨PortState.powerOn s.ports.plant.selected v.resetHigh, PortState.powerOn s.ports.billing.selected v.resetHigh⟩
    supervisor := { Supervisor.initial with
      main := v.main, backupLow := v.backupLow, resetHigh := v.resetHigh, resetSeen := !v.resetHigh }
    freeSeq := s.freeSeq
    pending := s.pending }

/-- POWER_ON_RESET (R190): the recovery test expires in OFF. -/
def execPowerOnReset (s : State) : Host.Outcome State Fault Refusal :=
  .next (if s.supervisor.supply = .off ∧ s.supervisor.recovery = true then s.powerOn else s)

end Sys2Proof.Machine
end

