-- ==== Sys2Proof/Machine/TenancyRequests.lean ====
section
/-!
DEFINITION. The Billing Port's tenancy requests: MOVE IN, MOVE OUT, CANCEL MOVE (R7 to R10), JOIN PAIR and SPLIT
PAIR (R17, R18), and SET ACCOUNT (R14, R15).
-/

namespace Sys2Proof.Machine

/-- The work of MOVE IN (R7, R8). -/
def moveInWork (account : Byte) (tag : Word) (s : State) : Answer :=
  match accountOf account with
  | none => .refuse s .badIndex
  | some a =>
    let r := s.account a
    if s.clock.store = .blank then .refuse s .wrongState
    else if a = 0 then .refuse s .wrongState
    else
      match r.tenancy with
      | .vacant => .ok (s.setAccount a { r with tenancy := .opening, staged := some (.moveIn tag) }) []
      | .final => .refuse s .statementsPending
      | .opening => .refuse s .wrongState
      | .occupied => .refuse s .wrongState
      | .closing => .refuse s .wrongState
      | .joined => .refuse s .wrongState

/-- MOVE_IN (R8). -/
def execMoveIn (p : Port) (account : Byte) (tag : Word) (s : State) : Host.Outcome State Fault Refusal :=
  .next (s.serve p (Instr.moveIn p account tag).requestBytes (moveInWork account tag))

/-- The work of MOVE OUT (R7, R9). -/
def moveOutWork (account : Byte) (s : State) : Answer :=
  match accountOf account with
  | none => .refuse s .badIndex
  | some a =>
    let r := s.account a
    if a = 0 then .refuse s .wrongState
    else
      match r.tenancy with
      | .occupied => .ok (s.setAccount a { r with tenancy := .closing, staged := some .moveOut }) []
      | .opening => .ok (s.setAccount a { r with tenancy := .vacant, staged := none }) []
      | .vacant => .refuse s .wrongState
      | .closing => .refuse s .wrongState
      | .final => .refuse s .wrongState
      | .joined => .refuse s .wrongState

/-- MOVE_OUT (R9). -/
def execMoveOut (p : Port) (account : Byte) (s : State) : Host.Outcome State Fault Refusal :=
  .next (s.serve p (Instr.moveOut p account).requestBytes (moveOutWork account))

/-- The work of CANCEL MOVE (R7, R10). -/
def cancelMoveWork (account : Byte) (s : State) : Answer :=
  match accountOf account with
  | none => .refuse s .badIndex
  | some a =>
    let r := s.account a
    if a = 0 then .refuse s .wrongState
    else
      match r.tenancy with
      | .closing => .ok (s.setAccount a { r with tenancy := .occupied, staged := none }) []
      | .opening => .ok (s.setAccount a { r with tenancy := .vacant, staged := none }) []
      | .vacant => .refuse s .wrongState
      | .occupied => .refuse s .wrongState
      | .final => .refuse s .wrongState
      | .joined => .refuse s .wrongState

/-- CANCEL_MOVE (R10). -/
def execCancelMove (p : Port) (account : Byte) (s : State) : Host.Outcome State Fault Refusal :=
  .next (s.serve p (Instr.cancelMove p account).requestBytes (cancelMoveWork account))

/-- The pair whose lower account a byte names (R17). -/
def pairOf (lower : Byte) : Option (AccountNo × AccountNo) :=
  (accountOf lower).bind fun l => (upperOf l).map fun u => (l, u)

/-- The work of JOIN PAIR (R17). -/
def joinPairWork (lower : Byte) (s : State) : Answer :=
  match pairOf lower with
  | none => .refuse s .badIndex
  | some (l, u) =>
    if s.settleInFlight then .refuse s .busy
    else if (s.account l).tenancy = .vacant ∧ (s.account u).tenancy = .vacant then
      .ok (s.setAccount u { s.account u with tenancy := .joined }) []
    else .refuse s .wrongState

/-- JOIN_PAIR (R17). -/
def execJoinPair (p : Port) (lower : Byte) (s : State) : Host.Outcome State Fault Refusal :=
  .next (s.serve p (Instr.joinPair p lower).requestBytes (joinPairWork lower))

/-- The work of SPLIT PAIR (R18). -/
def splitPairWork (lower : Byte) (s : State) : Answer :=
  match pairOf lower with
  | none => .refuse s .badIndex
  | some (l, u) =>
    if s.settleInFlight then .refuse s .busy
    else if (s.account u).tenancy = .joined ∧ (s.account l).tenancy = .vacant then
      .ok (s.setAccount u { (s.account u).vacancyReset with tenancy := .vacant }) []
    else .refuse s .wrongState

/-- SPLIT_PAIR (R18). -/
def execSplitPair (p : Port) (lower : Byte) (s : State) : Host.Outcome State Fault Refusal :=
  .next (s.serve p (Instr.splitPair p lower).requestBytes (splitPairWork lower))

/-! ## SET ACCOUNT (R14, R15) -/

/-- The line an account service will hold after the next boundary (R15). -/
def Account.nextLine (r : Account) (sv : Service) : Option LineNo := (r.stagedSettings.getD r.inForce).line.get sv

/-- The account will hold the line, for one of its services, after the next boundary. -/
def Account.willHold (r : Account) (l : LineNo) : Bool :=
  decide (r.nextLine .heating = some l) || decide (r.nextLine .cooling = some l)

/-- Another account will hold the line after the next boundary. -/
def State.lineTaken (s : State) (a : AccountNo) (o : Option LineNo) : Bool :=
  o.any fun l => (List.finRange 48).any fun x => decide (x ≠ a) && (s.account x).willHold l

/-- The request names a line that another account service will also hold (R15). -/
def State.lineClash (s : State) (a : AccountNo) (line : PerService (Option LineNo)) : Bool :=
  (line.heating.isSome && decide (line.heating = line.cooling)) || s.lineTaken a line.heating || s.lineTaken a line.cooling

/-- The work of SET ACCOUNT (R14). -/
def setAccountWork (account : Byte) (block : SettingsBlock) (s : State) : Answer :=
  match accountOf account with
  | none => .refuse s .badIndex
  | some a =>
    match basisOf block.basis.heating, basisOf block.basis.cooling with
    | some bh, some bc =>
      match lineField block.line.heating, lineField block.line.cooling with
      | some lh, some lc =>
        if s.lineClash a ⟨lh, lc⟩ then .refuse s .wrongState
        else
          .ok (s.setAccount a { s.account a with
            stagedSettings := some (settingsOf block ⟨bh, bc⟩ ⟨lh, lc⟩) }) []
      | none, _ => .refuse s .badIndex
      | some _, none => .refuse s .badIndex
    | none, _ => .refuse s .badValue
    | some _, none => .refuse s .badValue

/-- SET_ACCOUNT (R14). -/
def execSetAccount (p : Port) (account : Byte) (block : SettingsBlock) (s : State) :
    Host.Outcome State Fault Refusal :=
  .next (s.serve p (Instr.setAccount p account block).requestBytes (setAccountWork account block))

end Sys2Proof.Machine
end

