-- ==== Sys2Proof/Machine/Dispatch.lean ====
section
/-!
DEFINITION. The meaning of each command: one arm for each row of the table.
-/

namespace Sys2Proof.Machine

def exec (i : Instr) (s : State) : Host.Outcome State Fault Refusal :=
  match i with
  | .transactionStart p => Sys2Proof.Machine.execTransactionStart p s
  | .transactionEnd p bytes => Sys2Proof.Machine.execTransactionEnd p bytes s
  | .portFrameRaise p => Sys2Proof.Machine.execPortFrameRaise p s
  | .status p clocked => Sys2Proof.Machine.execStatus p clocked s
  | .fetch p clocked => Sys2Proof.Machine.execFetch p clocked s
  | .streamRecordPrepare p => Sys2Proof.Machine.execStreamRecordPrepare p s
  | .configureMeter p slot address service scale spike late => Sys2Proof.Machine.execConfigureMeter p slot address service scale spike late s
  | .retireMeter p slot => Sys2Proof.Machine.execRetireMeter p slot s
  | .reReferenceMeter p slot => Sys2Proof.Machine.execReReferenceMeter p slot s
  | .postPlantReading p service count => Sys2Proof.Machine.execPostPlantReading p service count s
  | .reReferencePlant p service => Sys2Proof.Machine.execReReferencePlant p service s
  | .configurePlant p service scale => Sys2Proof.Machine.execConfigurePlant p service scale s
  | .setRuntimeLine p line enable polarity => Sys2Proof.Machine.execSetRuntimeLine p line enable polarity s
  | .setNoAdvance p openMin advanceMin window => Sys2Proof.Machine.execSetNoAdvance p openMin advanceMin window s
  | .setBand p band => Sys2Proof.Machine.execSetBand p band s
  | .setIntervalLength p minutes => Sys2Proof.Machine.execSetIntervalLength p minutes s
  | .setTolerance p tolerance => Sys2Proof.Machine.execSetTolerance p tolerance s
  | .setLineRate p rate => Sys2Proof.Machine.execSetLineRate p rate s
  | .mark p => Sys2Proof.Machine.execMark p s
  | .moveIn p account tag => Sys2Proof.Machine.execMoveIn p account tag s
  | .moveOut p account => Sys2Proof.Machine.execMoveOut p account s
  | .cancelMove p account => Sys2Proof.Machine.execCancelMove p account s
  | .joinPair p lower => Sys2Proof.Machine.execJoinPair p lower s
  | .splitPair p lower => Sys2Proof.Machine.execSplitPair p lower s
  | .setAccount p account block => Sys2Proof.Machine.execSetAccount p account block s
  | .assignMeter p slot kind number => Sys2Proof.Machine.execAssignMeter p slot kind number s
  | .unassignMeter p slot => Sys2Proof.Machine.execUnassignMeter p slot s
  | .setPrices p prices => Sys2Proof.Machine.execSetPrices p prices s
  | .closePeriod p => Sys2Proof.Machine.execClosePeriod p s
  | .cancelClose p => Sys2Proof.Machine.execCancelClose p s
  | .takeStatement p => Sys2Proof.Machine.execTakeStatement p s
  | .initialiseAccounts p => Sys2Proof.Machine.execInitialiseAccounts p s
  | .setReportMask p mask => Sys2Proof.Machine.execSetReportMask p mask s
  | .setAtnEnables p enables => Sys2Proof.Machine.execSetAtnEnables p enables s
  | .ackNotices p selection overflowClear => Sys2Proof.Machine.execAckNotices p selection overflowClear s
  | .readAccount p account => Sys2Proof.Machine.execReadAccount p account s
  | .streamAccounts p first count => Sys2Proof.Machine.execStreamAccounts p first count s
  | .readClock p => Sys2Proof.Machine.execReadClock p s
  | .readMeter p slot => Sys2Proof.Machine.execReadMeter p slot s
  | .readPlant p service => Sys2Proof.Machine.execReadPlant p service s
  | .readLine p => Sys2Proof.Machine.execReadLine p s
  | .readRuntime p levels => Sys2Proof.Machine.execReadRuntime p levels s
  | .readTariff p => Sys2Proof.Machine.execReadTariff p s
  | .readStatement p => Sys2Proof.Machine.execReadStatement p s
  | .readIntervalSummary p age => Sys2Proof.Machine.execReadIntervalSummary p age s
  | .readFaultMap p => Sys2Proof.Machine.execReadFaultMap p s
  | .readFaultEntry p position => Sys2Proof.Machine.execReadFaultEntry p position s
  | .meterLineCharacter address data stopHigh => Sys2Proof.Machine.execMeterLineCharacter address data stopHigh s
  | .gapExpiry => Sys2Proof.Machine.execGapExpiry s
  | .drainCaptureEntry => Sys2Proof.Machine.execDrainCaptureEntry s
  | .applyHeldDeltas slot => Sys2Proof.Machine.execApplyHeldDeltas slot s
  | .tickEdge levels => Sys2Proof.Machine.execTickEdge levels s
  | .timerExpiry => Sys2Proof.Machine.execTimerExpiry s
  | .deferredBoundary => Sys2Proof.Machine.execDeferredBoundary s
  | .tickLossTimeout => Sys2Proof.Machine.execTickLossTimeout s
  | .computeRead => Sys2Proof.Machine.execComputeRead s
  | .accountPost => Sys2Proof.Machine.execAccountPost s
  | .closeoutVisit => Sys2Proof.Machine.execCloseoutVisit s
  | .periodStep => Sys2Proof.Machine.execPeriodStep s
  | .summaryWrite => Sys2Proof.Machine.execSummaryWrite s
  | .vmainFall => Sys2Proof.Machine.execVmainFall s
  | .vmainRise => Sys2Proof.Machine.execVmainRise s
  | .holdExit => Sys2Proof.Machine.execHoldExit s
  | .powerOnReset => Sys2Proof.Machine.execPowerOnReset s
  | .backupLowChange low => Sys2Proof.Machine.execBackupLowChange low s
  | .warmResetAssert => Sys2Proof.Machine.execWarmResetAssert s
  | .warmResetRelease => Sys2Proof.Machine.execWarmResetRelease s
  | .vmainFallBelowRunThreshold => Sys2Proof.Machine.execVmainFallBelowRunThreshold s

end Sys2Proof.Machine
end

