-- ==== Sys2Proof/Safety.lean ====
section
/-!
DEFINITION. The terms the statements use: what a completed request, a drain operation and a settle operation leave
besides their own effect, and the laws of the spec as properties of a state.
-/

namespace Sys2Proof

/-- The result that refuses a request for an index out of range or an undefined code, in the order the request's own rule
tests them; none where every operand is good (R177, R192). -/
def Instr.badOperand : Instr → Option Machine.Result
  | .configureMeter _ slot _ service scale _ _ =>
    if 63 < slot.toNat then some .badIndex
    else if 2 < service.toNat ∨ 3 < scale.toNat then some .badValue
    else none
  | .retireMeter _ slot => if 63 < slot.toNat then some .badIndex else none
  | .reReferenceMeter _ slot => if 63 < slot.toNat then some .badIndex else none
  | .postPlantReading _ service _ => if 1 < service.toNat then some .badValue else none
  | .reReferencePlant _ service => if 1 < service.toNat then some .badValue else none
  | .configurePlant _ service scale => if 1 < service.toNat ∨ 3 < scale.toNat then some .badValue else none
  | .setRuntimeLine _ line _ _ => if 15 < line.toNat then some .badIndex else none
  | .setBand _ band => if 3 < band.toNat then some .badValue else none
  | .setLineRate _ rate => if 2 < rate.toNat then some .badValue else none
  | .moveIn _ account _ => if 47 < account.toNat then some .badIndex else none
  | .moveOut _ account => if 47 < account.toNat then some .badIndex else none
  | .cancelMove _ account => if 47 < account.toNat then some .badIndex else none
  | .joinPair _ lower => if lower.toNat % 2 = 0 ∨ 47 ≤ lower.toNat then some .badIndex else none
  | .splitPair _ lower => if lower.toNat % 2 = 0 ∨ 47 ≤ lower.toNat then some .badIndex else none
  | .setAccount _ account b =>
    if 47 < account.toNat then some .badIndex
    else if 1 < b.basis.heating.toNat ∨ 1 < b.basis.cooling.toNat then some .badValue
    else if (15 < b.line.heating.toNat ∧ b.line.heating.toNat ≠ 255) ∨
        (15 < b.line.cooling.toNat ∧ b.line.cooling.toNat ≠ 255) then some .badIndex
    else none
  | .assignMeter _ slot kind number =>
    if 63 < slot.toNat then some .badIndex
    else if kind.toNat = 1 then if 47 < number.toNat then some .badIndex else none
    else if kind.toNat = 2 then if 1 < number.toNat then some .badValue else none
    else some .badValue
  | .unassignMeter _ slot => if 63 < slot.toNat then some .badIndex else none
  | .readAccount _ account => if 47 < account.toNat then some .badIndex else none
  | .streamAccounts _ first _ => if 47 < first.toNat then some .badIndex else none
  | .readMeter _ slot => if 63 < slot.toNat then some .badIndex else none
  | .readPlant _ service => if 1 < service.toNat then some .badValue else none
  | .readIntervalSummary _ age => if 15 < age.toNat then some .badIndex else none
  | .readFaultEntry _ position => if 31 < position.toNat then some .badIndex else none
  | _ => none

/-- The port that a writing request belongs to: thirteen are the Plant Port's and thirteen the Billing Port's; none for the
requests that each port owns for itself, for the reads, and for a command that is no request (R139). -/
def Instr.owner : Instr → Option Port
  | .configureMeter _ _ _ _ _ _ _ => some .plant
  | .retireMeter _ _ => some .plant
  | .reReferenceMeter _ _ => some .plant
  | .postPlantReading _ _ _ => some .plant
  | .reReferencePlant _ _ => some .plant
  | .configurePlant _ _ _ => some .plant
  | .setRuntimeLine _ _ _ _ => some .plant
  | .setNoAdvance _ _ _ _ => some .plant
  | .setBand _ _ => some .plant
  | .setIntervalLength _ _ => some .plant
  | .setTolerance _ _ => some .plant
  | .setLineRate _ _ => some .plant
  | .mark _ => some .plant
  | .moveIn _ _ _ => some .billing
  | .moveOut _ _ => some .billing
  | .cancelMove _ _ => some .billing
  | .joinPair _ _ => some .billing
  | .splitPair _ _ => some .billing
  | .setAccount _ _ _ => some .billing
  | .assignMeter _ _ _ _ => some .billing
  | .unassignMeter _ _ => some .billing
  | .setPrices _ _ => some .billing
  | .closePeriod _ => some .billing
  | .cancelClose _ => some .billing
  | .takeStatement _ => some .billing
  | .initialiseAccounts _ => some .billing
  | _ => none

end Sys2Proof

namespace Sys2Proof.Machine

/-! ## What an operation leaves besides its own effect -/

/-- The Fault Table as a port's grant finds it: with the port's PORT-FRAME raise, if one waits (R157, R172). -/
def State.faultsAt (s : State) (p : Port) : Faults :=
  if (s.port p).framePending then s.faults.raise .portFrame (.port p) s.clock.interval else s.faults

/-- The port once its request has completed (R172, R175, R178): slot empty, reply READY and unfetched, no PORT-FRAME
raise waiting, and the stream ended if this request was taken just now. -/
def State.answered (s : State) (p : Port) (r : Result) (data : List Byte) : PortState :=
  { s.port p with
    slot := .empty
    reply := .ready r data false
    stream := if (s.port p).slot = .empty then none else (s.port p).stream
    framePending := false }

/-- The arbiter after a port's grant (R144): FREE, the port out of the yield set, and the other port's turn first if it
waits. -/
def State.arbiterAfter (s : State) (p : Port) : Arbiter :=
  { granted := none
    yieldSet := s.arbiter.yieldSet.filter fun q => decide (q ≠ .port p)
    turn := if s.waiting (.port p.other) then some p.other else none }

/-- The state after a request that completes with a result and changes nothing in the store. -/
def State.afterRequest (s : State) (p : Port) (r : Result) (data : List Byte) : State :=
  { s with ports := s.ports.set p (s.answered p r data), faults := s.faultsAt p, arbiter := s.arbiterAfter p }

/-- The state after a drain operation without effect of its own: the waiting LINE-OVERRUNs raised (R42, R157). -/
def State.afterDrain (s : State) : State :=
  { s with
    faults := (s.raiseTimes s.overruns .lineOverrun .line s.clock.interval).faults
    overruns := 0
    arbiter := { s.arbiter with yieldSet := s.arbiter.yieldSet.filter fun q => decide (q ≠ .drain) } }

/-- The command is a request whose port is granted the store now, so that it is carried out now (R144, R176). -/
def State.grants (s : State) (c : Instr) : Prop :=
  match c.port with
  | some p => s.grantsRequest p c.requestBytes = true
  | none => False

/-- A state in which an operation of the Settle Engine ends: the requesters waiting form the yield set (R144). -/
def State.endsSettleStep (s : State) : State :=
  { s with arbiter := { s.arbiter with yieldSet := [Requester.drain, .port .plant, .port .billing].filter s.waiting } }

/-! ## Boundaries (R11, R16, R29, R32 to R34, R50, R51, R58, R66, R91, R92, R126) -/

/-- The slot becomes LATE at a boundary in RUNNING (R51). -/
def MeterSlot.turnsLate (k : MeterSlot) : Bool :=
  decide (k.state = .live) && decide (k.lateLimit ≤ if k.frameSeen then 0 else addSat 255 k.missed 1)

/-- The state a slot has after the boundary's meter update (R51). -/
def MeterSlot.stateAfter (k : MeterSlot) : MeterState := if k.turnsLate then .late else k.state

/-- The slots that become LATE at a boundary, in slot order. -/
def State.newlyLate (s : State) : List SlotNo := (List.finRange 64).filter fun m => (s.meter m).turnsLate

/-- What every boundary brings into force and begins afresh, interval `n` being the one that begins. -/
def State.began (s t : State) (n : Nat) : Prop :=
  t.clock =
    { store := .running, interval := n, elapsed := 0, deferred := false
      length := s.clock.stagedLength.getD s.clock.length, stagedLength := none
      band := s.clock.stagedBand.getD s.clock.band, stagedBand := none
      prices := s.clock.stagedPrices.getD s.clock.prices, stagedPrices := none
      tolerance := s.clock.stagedTolerance.getD s.clock.tolerance, stagedTolerance := none
      flags := { stretched := false, interrupted := false, tickLoss := s.clock.tickLoss,
                 settingsApplied := t.clock.flags.settingsApplied }
      tickLoss := s.clock.tickLoss } ∧
  (t.clock.flags.settingsApplied = true ↔
    s.clock.stagedLength ≠ none ∨ s.clock.stagedBand ≠ none ∨ s.clock.stagedPrices ≠ none ∨
      s.clock.stagedTolerance ≠ none ∨ ∃ a, (s.account a).stagedSettings ≠ none) ∧
  (∀ sv, t.plant.get sv = { s.plant.get sv with delta := 0, posted := false }) ∧
  (∀ l, t.lines.get l = { s.lines.get l with count := 0 }) ∧
  (∀ a, t.joinedNote.get a = decide ((s.account a).tenancy = .joined)) ∧
  (∀ a, (t.account a).inForce = (s.account a).stagedSettings.getD (s.account a).inForce ∧
    (t.account a).stagedSettings = none ∧ (t.account a).meterPos = (s.account a).meterPos ∧
    (t.account a).work = (s.account a).work ∧ (t.account a).totals = (s.account a).totals ∧
    (t.account a).settledThrough = (s.account a).settledThrough)

/-- An account whose tenancy is neither opened nor ended at a boundary, or is (R11). -/
def Account.moved (r t : Account) (n : Nat) : Prop :=
  match r.tenancy with
  | .opening => ∀ tag, r.staged = some (.moveIn tag) →
    t.tenancy = .occupied ∧ t.staged = none ∧ t.tag = some tag ∧ t.firstInterval = n
  | .closing => t.tenancy = .final ∧ t.staged = none ∧ t.tag = r.tag ∧ t.firstInterval = r.firstInterval
  | .vacant => t.tenancy = .vacant ∧ t.staged = r.staged ∧ t.tag = r.tag ∧ t.firstInterval = r.firstInterval
  | .occupied => t.tenancy = .occupied ∧ t.staged = r.staged ∧ t.tag = r.tag ∧ t.firstInterval = r.firstInterval
  | .final => t.tenancy = .final ∧ t.staged = r.staged ∧ t.tag = r.tag ∧ t.firstInterval = r.firstInterval
  | .joined => t.tenancy = .joined ∧ t.staged = r.staged ∧ t.tag = r.tag ∧ t.firstInterval = r.firstInterval

/-- `t` is `s` after a boundary in RUNNING, the ports and the arbiter apart. The bank records an account JOINED that was
JOINED at the boundary before, VACANT one that has been joined since, and any other by its tenancy state (R6). -/
def State.tookBoundary (s t : State) : Prop :=
  let n := if s.clock.interval = 4294967295 then 1 else s.clock.interval + 1
  let recorded := fun a => if s.joinedNote.get a = true then .joined
    else if (s.account a).tenancy = .joined then .vacant else (s.account a).tenancy
  s.began t n ∧
  (∀ a, (s.account a).moved (t.account a) n) ∧
  (∀ m, t.meter m =
    { s.meter m with
      state := (s.meter m).stateAfter
      missed := if (s.meter m).state = .off then (s.meter m).missed
        else if (s.meter m).frameSeen then 0 else addSat 255 (s.meter m).missed 1
      frameSeen := decide ((s.meter m).state = .off) && (s.meter m).frameSeen
      accumulation := ⟨0, 0⟩, owner := (s.meter m).target }) ∧
  t.faults = s.newlyLate.foldl (fun f m => f.raise .meterLate (.meter m) s.clock.interval) s.faults ∧
  t.stagedClose = false ∧
  (∃ b, t.settle = .compute b [] ∧
    b.interval = s.clock.interval ∧ b.band = s.clock.band ∧ b.prices = s.clock.prices ∧
    b.tolerance = s.clock.tolerance ∧ b.noAdvance = s.noAdvance ∧ b.flags = s.clock.flags ∧
    b.periodEnd = s.stagedClose ∧
    (∀ sv, b.plant.get sv = { delta := (s.plant.get sv).delta, posted := (s.plant.get sv).posted }) ∧
    (∀ a, b.accounts.get a = { recorded := recorded a, settings := (s.account a).inForce,
                               meterPos := (s.account a).meterPos }) ∧
    (∀ m, b.slots.get m = { state := (s.meter m).stateAfter, accumulation := (s.meter m).accumulation,
                            owner := (s.meter m).owner }) ∧
    ∀ l, b.lines.get l = if (s.lines.get l).enabled then some (s.lines.get l).count else none) ∧
  t = { s with
    meters := t.meters, plant := t.plant, lines := t.lines, accounts := t.accounts, joinedNote := t.joinedNote
    clock := t.clock, settle := t.settle, stagedClose := false, faults := t.faults
    ports := t.ports, arbiter := t.arbiter }

/-- `t` is `s` after the alignment boundary (R32), the ports and the arbiter apart; account 0's first interval becomes 1
whatever its tenancy (R22). -/
def State.tookAlignment (s t : State) : Prop :=
  s.began t 1 ∧
  (∀ a, a ≠ 0 → (s.account a).moved (t.account a) 1) ∧
  (∃ n, (s.account 0).moved { t.account 0 with firstInterval := n } 1) ∧ (t.account 0).firstInterval = 1 ∧
  (∀ m, t.meter m = { s.meter m with frameSeen := false, accumulation := ⟨0, 0⟩, owner := (s.meter m).target }) ∧
  t = { s with
    meters := t.meters, plant := t.plant, lines := t.lines, accounts := t.accounts, joinedNote := t.joinedNote
    clock := t.clock, faults := t.faults, ports := t.ports, arbiter := t.arbiter }

/-! ## A counted TICK (R24, R26, R64) -/

/-- The elapsed count stands at the limit with no boundary deferred. -/
def Clock.atLimit (c : Clock) : Prop := c.deferred = false ∧ c.length * 60 ≤ c.elapsed

/-- `u` is `s` once a TICK is counted, up to what the count brings about: the TICK-LOSS condition ended, the elapsed count
advanced unless a deferral holds it, and one open second more, up to 3,600, for each enabled, active line. -/
def State.ticked (s : State) (levels : Half) (u : State) : Prop :=
  u = { s with
    clock := u.clock, lines := u.lines, linePins := some levels
    faults := if s.clock.tickLoss then s.faults.endCondition .tickLoss .clock else s.faults } ∧
  u.clock = { s.clock with
    tickLoss := false
    elapsed := if s.clock.deferred = false ∧ s.clock.elapsed < s.clock.length * 60 then s.clock.elapsed + 1
      else s.clock.elapsed } ∧
  ∀ l, u.lines.get l = { s.lines.get l with
    count := if (s.lines.get l).enabled = true ∧ levels.getLsbD l.val ≠ (s.lines.get l).activeLow
      then min 3600 ((s.lines.get l).count + 1) else (s.lines.get l).count }

/-- `t` is `s` after the timer's expiry: the alignment boundary, a boundary, or its deferral behind a settle in flight. -/
def State.expiredTo (s t : State) : Prop :=
  (s.clock.store = .aligning → s.tookAlignment t ∧ t.faults = s.faults) ∧
  (s.clock.store = .running → s.settleInFlight = false → s.tookBoundary t) ∧
  (s.clock.store = .running → s.settleInFlight = true → t = { s with clock := { s.clock with deferred := true } }) ∧
  t.ports = s.ports ∧ t.arbiter = s.arbiter

/-! ## What a post, a drop, a stop and a restart leave -/

/-- The line an account service will hold after the next boundary, as R15 has it. -/
def State.lineAfter (s : State) (a : AccountNo) (sv : Service) : Option LineNo :=
  match (s.account a).stagedSettings with
  | some x => x.line.get sv
  | none => (s.account a).inForce.line.get sv

/-- A capture entry reaching the queue: it joins the tail while fewer than two stand there, and otherwise is dropped with a
LINE-OVERRUN raise left pending (R42). -/
def State.captured (s : State) (e : CaptureEntry) : State :=
  if s.capture.length < 2 then { s with capture := s.capture ++ [e] } else { s with overruns := s.overruns + 1 }

/-- A total after a post adds one component to it (R110). -/
def added (most total component : Nat) : Nat := min most (total + component)

/-- The trip of an account service makes the slot SUSPECT: the slot is LIVE and still holds the account service's meter
position (R77). -/
def State.trips (s : State) (x : PerService ServiceResult) (a : AccountNo) (sv : Service) (m : SlotNo) : Bool :=
  decide ((x.get sv).trip = some m) && decide ((s.meter m).state = .live) &&
  decide ((s.account a).meterPos.get sv = some m)

/-- The Fault Table after a trip, if there is one, `suspect` telling whether the slot becomes SUSPECT by it (R77, R157). -/
def Faults.tripped (f : Faults) (trip : Option SlotNo) (suspect : SlotNo → Bool) (n : Nat) : Faults :=
  match trip with
  | none => f
  | some m =>
    let g := f.raise .meterNoAdvance (.meter m) n
    if suspect m then g.raise .meterSuspect (.meter m) n else g

/-- The Fault Table after a balance fault, if there is one (R86, R111). -/
def Faults.balanced (f : Faults) (sv : Service) (fault : Option BalanceFault) (n : Nat) : Faults :=
  match fault with
  | none => f
  | some .excess => f.raise .balanceExcess (.plant sv) n
  | some .plantLate => f.raise .plantLate (.plant sv) n

/-- Some total of the account would pass its maximum in the post (R110). -/
def Totals.overflows (t : Totals) (band : Band) (x : PerService ServiceResult) : Prop :=
  ∃ sv,
    1099511627775 < (t.energy.get sv).metered + (x.get sv).metered ∨
    1099511627775 < (t.energy.get sv).estimated + (x.get sv).estimated ∨
    1099511627775 < (t.energy.get sv).common + (x.get sv).common ∨
    1099511627775 < (t.energy.get sv).loss + (x.get sv).loss ∨
    281474976710655 < ((t.cost.get sv).get band) + (x.get sv).cost

/-- One service's energy totals after a post. -/
def EnergyTotals.after (t : EnergyTotals) (x : ServiceResult) : EnergyTotals :=
  { metered := added 1099511627775 t.metered x.metered
    estimated := added 1099511627775 t.estimated x.estimated
    common := added 1099511627775 t.common x.common
    loss := added 1099511627775 t.loss x.loss }

/-- The interfaces stopped: ports, receiver, capture queue and arbiter cleared, no line level held, the running interval
flagged (R186, R147, R62). That the port turn is cleared too is the model's choice (log entry 22). -/
def State.stopped (s : State) : State :=
  let stop := fun q : PortState => { q with
    transaction := .idle, dataOut := [], slot := .empty, reply := .empty, stream := none
    reject := false, frame := false, settled := false, framePending := false }
  { s with
    ports := ⟨stop s.ports.plant, stop s.ports.billing⟩, receiver := .idle, capture := [], overruns := 0
    arbiter := { granted := none, yieldSet := [], turn := none }, linePins := none
    clock := if s.clock.store = .blank then s.clock
      else { s.clock with flags := { s.clock.flags with interrupted := true } } }

/-- The place of an account in the post order 1, 2, …, 47 and then 0 (R107). -/
def postRank (a : AccountNo) : Nat := (a.val + 47) % 48

/-- The interfaces restarted (R188): each port IDLE, or LOCKED-OUT with its chip-select low; SUPPLY-HOLD raised for each
exit from HOLD since the last restart, then SETTLE-RESUMED when RESETn was low in the suspension; and a suspended settle
resumed, in COMPUTE from the start and in POST from the first account in post order not yet posted. -/
def State.restarted (s t : State) : Prop :=
  let port := fun q : PortState => { q with transaction := if q.selected then .lockedOut else .idle }
  t = { s with
    ports := ⟨port s.ports.plant, port s.ports.billing⟩, receiver := .idle, faults := t.faults, settle := t.settle
    supervisor := { s.supervisor with holdExits := 0, resetSeen := false } } ∧
  t.faults =
    (let f := (s.raiseTimes s.supervisor.holdExits .supplyHold .supply s.clock.interval).faults
     match s.bank with
     | some b => if s.supervisor.resetSeen then f.raise .settleResumed .store b.interval else f
     | none => f) ∧
  match s.settle with
  | .idle => t.settle = .idle
  | .compute b _ => t.settle = .compute b []
  | .closeout b r next done => t.settle = .closeout b r next done
  | .post b r c =>
    (∀ x : AccountNo, (s.account x).settledThrough ≠ b.interval →
      (∀ y, postRank y < postRank x → (s.account y).settledThrough = b.interval) → t.settle = .post b r x) ∧
    ((∀ x : AccountNo, (s.account x).settledThrough = b.interval) → t.settle = .post b r c)

/-! ## The laws as properties of a state -/

/-- Fault uniqueness law (R158): at most one entry for any class and subject. -/
def Faults.unique (f : Faults) : Prop :=
  ∀ i j x y, f.entries.get i = some x → f.entries.get j = some y → x.cls = y.cls → x.subject = y.subject → i = j

/-- Every entry held is one that R155 and R164 allow: ACTIVE only in a CONDITION class, and a notice or ACTIVE set. -/
def Faults.proper (f : Faults) : Prop :=
  ∀ i x, f.entries.get i = some x →
    (x.active = true → x.cls.isCondition = true) ∧
    (x.notice.plant = true ∨ x.notice.billing = true ∨ x.active = true)

/-- Single-settle law (R36): a settle in flight holds the interval immediately before the current one. -/
def State.singleSettle (s : State) : Prop :=
  ∀ b, s.bank = some b → s.clock.store = .running ∧ s.clock.interval = nextInterval b.interval

/-- The number of the last settled interval, which the newest summary carries; 0 when none has been settled since
power-on or since INITIALISE ACCOUNTS (R112, R115, R136). -/
def State.lastSettled (s : State) : Nat := (s.ring.head?.map Summary.interval).getD 0

/-- Settled-through law (R112): at IDLE and in COMPUTE every value is the number of the last settled interval; in POST the
accounts before the cursor hold the bank's interval and the others that number; in CLOSEOUT all hold the bank's. -/
def State.settledThroughLaw (s : State) : Prop :=
  match s.settle with
  | .idle => ∀ a, (s.account a).settledThrough = s.lastSettled
  | .compute _ _ => ∀ a, (s.account a).settledThrough = s.lastSettled
  | .post b _ c => ∀ a, (s.account a).settledThrough = if postRank a < postRank c then b.interval else s.lastSettled
  | .closeout b _ _ _ => ∀ a, (s.account a).settledThrough = b.interval

/-- First clause of the meter uniqueness law (R55): no two slots that are not OFF share a line address. -/
def State.addressesUnique (s : State) : Prop :=
  ∀ m k, (s.meter m).state ≠ .off → (s.meter k).state ≠ .off → (s.meter m).address = (s.meter k).address → m = k

/-- The account positions and the slots' targets say the same (R2, R55). -/
def State.positionsAgree (s : State) : Prop :=
  ∀ a sv m, (s.account a).meterPos.get sv = some m ↔
    ((s.meter m).target = .account a ∧ (s.meter m).service.credits sv = true)

/-- The pool lists and the slots' targets say the same; no list holds a slot twice or more than 8 (R57). -/
def State.poolsAgree (s : State) : Prop :=
  ∀ q, (∀ m, m ∈ s.pools.get q ↔ (s.meter m).target = .pool q) ∧ (s.pools.get q).Nodup ∧
    (s.pools.get q).length ≤ Config.poolMax

/-- Meter uniqueness law (R55). -/
def State.meterUniqueness (s : State) : Prop := s.addressesUnique ∧ s.positionsAgree ∧ s.poolsAgree

/-- The account service a line is mapped to in a table of settings, at most one (R67). -/
def linesMappedOnce (f : AccountNo → Service → Option LineNo) : Prop :=
  ∀ a b sv tv l, f a sv = some l → f b tv = some l → a = b ∧ sv = tv

/-- Line mapping law (R67), for the settings in force and for those that the next boundary brings into force. -/
def State.lineMappingLaw (s : State) : Prop :=
  linesMappedOnce (fun a sv => (s.account a).inForce.line.get sv) ∧
  linesMappedOnce (fun a sv => (s.account a).nextLine sv)

/-- The queued statements of one kind for one account. -/
def State.queued (s : State) (k : StatementKind) (a : AccountNo) : Nat :=
  (s.queue.filter fun x => decide (x.kind = k) && decide (x.account = a)).length

/-- CLOSEOUT of the settle in flight has visited the account. -/
def State.visited (s : State) (a : AccountNo) : Prop :=
  match s.settle with
  | .closeout _ _ next _ => a.val < next
  | .idle => False
  | .compute _ _ => False
  | .post _ _ _ => False

/-- The statement-bound law (R131) with what keeps it: at most one PERIOD and one FINAL statement for each account; none
of kind PERIOD while a close is staged, or for an account that a closing settle has still to visit; a FINAL statement
only for an account that is FINAL, and none yet where a settle has still to visit an account recorded CLOSING. -/
def State.statementBound (s : State) : Prop :=
  (∀ a, s.queued .period a ≤ 1 ∧ s.queued .final a ≤ 1) ∧
  (s.stagedClose = true → (∀ a, s.queued .period a = 0) ∧ ∀ b, s.bank = some b → b.periodEnd = false) ∧
  (∀ b a, s.bank = some b → b.periodEnd = true → ¬ s.visited a → s.queued .period a = 0) ∧
  (∀ a, 0 < s.queued .final a → (s.account a).tenancy = .final) ∧
  (∀ b a, s.bank = some b → (b.accounts.get a).recorded = .closing → ¬ s.visited a →
    (s.account a).tenancy = .final ∧ s.queued .final a = 0)

/-- A price set's ranges (R81). -/
def pricesInRange (x : PriceSet) : Prop := ∀ sv b, (x.get sv).get b ≤ 65535

/-- The Interval Clock's ranges (R23): the lengths, an elapsed count that reaches the limit in a deferral alone (R24,
R26), the interval number, the prices and the tolerances. -/
def Clock.inRange (c : Clock) : Prop :=
  5 ≤ c.length ∧ c.length ≤ 60 ∧ (∀ n, c.stagedLength = some n → 5 ≤ n ∧ n ≤ 60) ∧
  c.elapsed ≤ c.limit ∧ (c.deferred = false → c.elapsed < c.limit) ∧ c.interval ≤ 4294967295 ∧
  pricesInRange c.prices ∧ (∀ x, c.stagedPrices = some x → pricesInRange x) ∧
  c.tolerance ≤ 255 ∧ ∀ n, c.stagedTolerance = some n → n ≤ 255

/-- The capture queue holds at most two entries (R42), and the open-second counts at most 3,600 (R62). -/
def State.countsBounded (s : State) : Prop :=
  s.capture.length ≤ Config.captureBuffers ∧ ∀ l, (s.lines.get l).count ≤ Config.openSecondsMax

/-- Between two commands the arbiter's grant state is FREE (R143), and while the interfaces are stopped no port holds a
transaction, a request, a reply, a stream or a flag, and the receiver and the runtime front end nothing (R183, R43, R62). -/
def State.quiet (s : State) : Prop :=
  s.arbiter.granted = none ∧
  (s.interfacesRun = false → s.receiver = .idle ∧ s.capture = [] ∧ s.linePins = none ∧ ∀ p, (s.port p).slot = .empty ∧
    (s.port p).reply = .empty ∧ (s.port p).stream = none ∧ (s.port p).reject = false ∧ (s.port p).frame = false ∧
    (s.port p).settled = false ∧ (s.port p).framePending = false ∧ (s.port p).transaction = .idle)

/-- The ranges of an account service's working state (R3). -/
def Working.inRange (w : Working) : Prop :=
  w.carry < 3600 ∧ w.balance ≤ 4294967295 ∧ w.history.length ≤ 4 ∧ (∀ e ∈ w.history, e ≤ 268435455) ∧ w.streak ≤ 15

/-- The ranges of the totals and counts (R4). -/
def Totals.inRange (t : Totals) : Prop :=
  (∀ sv, (t.energy.get sv).metered ≤ 1099511627775 ∧ (t.energy.get sv).estimated ≤ 1099511627775 ∧
    (t.energy.get sv).common ≤ 1099511627775 ∧ (t.energy.get sv).loss ≤ 1099511627775) ∧
  (∀ sv b, (t.cost.get sv).get b ≤ 281474976710655) ∧
  t.occupied ≤ 4294967295 ∧ t.estimated ≤ 4294967295 ∧ t.interrupted ≤ 4294967295

/-- The ranges of a set of settings (R2). -/
def Settings.inRange (x : Settings) : Prop :=
  (∀ sv, x.power.get sv ≤ 65535) ∧ x.retailWeight ≤ 65535 ∧ x.officeWeight ≤ 65535

/-- The ranges of an account record (R1 to R4). -/
def Account.inRange (r : Account) : Prop :=
  r.inForce.inRange ∧ (∀ x, r.stagedSettings = some x → x.inRange) ∧ (∀ sv, (r.work.get sv).inRange) ∧
  r.totals.inRange ∧ r.firstInterval ≤ 4294967295 ∧ r.settledThrough ≤ 4294967295

/-- The ranges of a meter slot (R44). -/
def MeterSlot.inRange (k : MeterSlot) : Prop :=
  1 ≤ k.address ∧ k.address ≤ 250 ∧ k.spikeLimit ≤ 268435455 ∧ 1 ≤ k.lateLimit ∧ k.lateLimit ≤ 15 ∧
  k.missed ≤ 255 ∧ k.errorStreak ≤ 15 ∧ (∀ sv, k.accumulation.get sv ≤ 268435455) ∧
  ∀ h, k.held = some h → ∀ sv, h.energy.get sv ≤ 268435455

/-- The ranges of what the settle in flight holds: the bank's interval number and accumulations, the readings, and the
results that a post writes into an account (R3, R91, R92, R96). -/
def Settle.inRange (x : Settle) : Prop :=
  let bank := fun b : Bank => b.interval ≤ 4294967295 ∧ ∀ m sv, (b.slots.get m).accumulation.get sv ≤ 268435455
  match x with
  | .idle => True
  | .compute b rs => bank b ∧ ∀ r ∈ rs, ∀ sv, (r.get sv).carry < 3600 ∧ (r.get sv).streak ≤ 15
  | .post b r _ => bank b ∧ ∀ a sv, ((r.accounts.get a).get sv).newCarry < 3600 ∧
      ((r.accounts.get a).get sv).newStreak ≤ 15 ∧ ∀ e, ((r.accounts.get a).get sv).entry = some e → e ≤ 268435455
  | .closeout b _ _ _ => bank b

/-- The ranges of the Fault Table (R155, R161). -/
def Faults.inRange (f : Faults) : Prop :=
  f.counter < 65536 ∧ (∀ p, f.mask.get p &&& 0x003FFFFF#32 = f.mask.get p) ∧
  ∀ i e, f.entries.get i = some e → e.seq < 65536 ∧ 1 ≤ e.occurrences ∧ e.occurrences ≤ 255 ∧
    e.first ≤ 4294967295 ∧ e.last ≤ 4294967295

/-- The ranges of the records of the account store: accounts, meter and plant slots, the no-advance settings (R75), the
settle, the period number (R119), the ring (R136) and the Fault Table. -/
def State.recordsInRange (s : State) : Prop :=
  (∀ a, (s.account a).inRange) ∧ (∀ m, (s.meter m).inRange) ∧ (∀ sv, (s.plant.get sv).delta ≤ 268435455) ∧
  (s.noAdvance.openMin ≤ 900 ∧ s.noAdvance.advanceMin ≤ 65535 ∧ 1 ≤ s.noAdvance.window ∧ s.noAdvance.window ≤ 15) ∧
  s.settle.inRange ∧ (1 ≤ s.period ∧ s.period ≤ 65535) ∧ s.ring.length ≤ 16 ∧ s.faults.inRange

/-- While a port's slot is in use its reply buffer is PENDING (R175, R178, R180). -/
def State.repliesPend (s : State) : Prop := ∀ p, (s.port p).slot ≠ .empty → (s.port p).reply = .pending

/-- The staged change and the tag that go with each tenancy state (R1). -/
def Account.proper (r : Account) : Prop :=
  match r.tenancy with
  | .vacant => r.staged = none ∧ r.tag = none
  | .opening => (∃ tag, r.staged = some (.moveIn tag)) ∧ r.tag = none
  | .occupied => r.staged = none ∧ r.tag.isSome = true
  | .closing => r.staged = some .moveOut ∧ r.tag.isSome = true
  | .final => r.staged = none ∧ r.tag.isSome = true
  | .joined => r.staged = none ∧ r.tag = none

/-- Every account is proper (R1), account 0 is OCCUPIED with tag 0 (R5), and only the upper account of a pair is JOINED
(R17). -/
def State.tenanciesProper (s : State) : Prop :=
  (∀ a, (s.account a).proper) ∧ (s.account 0).tenancy = .occupied ∧ (s.account 0).tag = some 0#32 ∧
  ∀ a, (s.account a).tenancy = .joined → (lowerOf a).isSome = true

end Sys2Proof.Machine
end

