-- ==== Sys2Proof/Certificates/Slice0/Obligations.lean ====
section
/-!
DEFINITION. The statements for the provers. OBLIGATIONS.json gives each its title, its basis and its place in the spec.

A request's statement gives its whole next state as an update of `State.afterRequest`, the state in which the request has
completed and the store is as it was: whatever the update does not name is unchanged.
-/

open Sys2Proof Sys2Proof.Machine

/-! ## The step -/

/-- A step carries out the command at the front of the queue on the state with the queue's rest; with an empty queue the
block idles, which is the model's choice (log entry 3). -/
def Obligations.StepTakesFrontCommand : Prop :=
  ∀ s : State,
    (∀ c rest, s.pending = c :: rest → step s = exec c { s with pending := rest }) ∧
    (s.pending = [] → step s = .next s)

/-- No command touches the queue of commands that wait: its effect is on everything else. -/
def Obligations.CommandsLeaveTheQueue : Prop :=
  ∀ (c : Instr) (s t : State), exec c s = .next t → t.pending = s.pending

/-- What a port does to a request when it is not carried out now: nothing with the interfaces stopped or a transaction
open; REJECT while another request is in flight; and a request that is not granted the store waits in its slot. The
first and the last are the model's choice of how a request command meets a port (log entries 1 and 2). -/
def Obligations.RequestsTurnedAway : Prop :=
  ∀ (c : Instr) (p : Port) (s : State), c.port = some p → c.requestBytes ≠ [] →
    (s.intake p c.requestBytes = .shut → exec c s = .next s) ∧
    (s.intake p c.requestBytes = .rejected →
      exec c s = .next { s with ports := s.ports.set p { s.port p with reject := true } }) ∧
    (s.intake p c.requestBytes = .held → ownerAllows p c.requestBytes = true → s.nextGrant ≠ some (.port p) →
      exec c s = .next s) ∧
    (s.intake p c.requestBytes = .taken → ownerAllows p c.requestBytes = true →
      (s.arrived p c.requestBytes).nextGrant ≠ some (.port p) →
      exec c s = .next { s with
        ports := s.ports.set p { s.port p with slot := .request c.requestBytes, reply := .pending, stream := none } })

/-- Thirteen writing requests belong to the Plant Port and thirteen to the Billing Port, and the ownership test turns away
these alone, on the other port. Such a request completes with NOT-OWNER within the port, whatever the arbiter is doing:
nothing else changes, and a pending PORT-FRAME raise keeps waiting. -/
def Obligations.NotOwnerRefusal : Prop :=
  ∀ (c : Instr) (p : Port) (s : State), c.port = some p → c.requestBytes ≠ [] →
    (ownerAllows p c.requestBytes = false ↔ c.owner = some p.other) ∧
    (c.owner = some p.other → s.intake p c.requestBytes = .held ∨ s.intake p c.requestBytes = .taken →
      exec c s = .next { s with
        ports := s.ports.set p { s.answered p .notOwner [] with framePending := (s.port p).framePending } })

/-- A request with an index out of range or an undefined code is refused with BAD-INDEX or BAD-VALUE, and writes nothing. -/
def Obligations.BadOperandRefusals : Prop :=
  ∀ (c : Instr) (p : Port) (r : Result) (s : State), c.port = some p → c.badOperand = some r → s.grants c →
    exec c s = .next (s.afterRequest p r [])

/-- The five requests that a settle in flight refuses with BUSY, every operand being good and MARK taken in RUNNING. -/
def Obligations.BusyRefusals : Prop :=
  ∀ s : State, s.settleInFlight = true →
    (s.clock.store = .running → s.grants (.mark .plant) →
      exec (.mark .plant) s = .next (s.afterRequest .plant .busy [])) ∧
    (∀ slot : Byte, slot.toNat ≤ 63 → s.grants (.reReferenceMeter .plant slot) →
      exec (.reReferenceMeter .plant slot) s = .next (s.afterRequest .plant .busy [])) ∧
    (∀ lower : Byte, lower.toNat % 2 = 1 → lower.toNat < 47 → s.grants (.joinPair .billing lower) →
      exec (.joinPair .billing lower) s = .next (s.afterRequest .billing .busy [])) ∧
    (∀ lower : Byte, lower.toNat % 2 = 1 → lower.toNat < 47 → s.grants (.splitPair .billing lower) →
      exec (.splitPair .billing lower) s = .next (s.afterRequest .billing .busy [])) ∧
    (s.grants (.initialiseAccounts .billing) →
      exec (.initialiseAccounts .billing) s = .next (s.afterRequest .billing .busy []))

/-! ## Port transactions -/

/-- Chip-select's fall latches the status byte and opens a transaction in CODE; nothing but the port changes. A stopped port
sees the pin alone. That the command changes nothing where chip-select is low already is the model's choice (log entry 2). -/
def Obligations.TransactionStartLatches : Prop :=
  ∀ (s : State) (p : Port),
    (s.interfacesRun = true → (s.port p).selected = false →
      exec (.transactionStart p) s = .next { s with
        ports := s.ports.set p { s.port p with
          selected := true, transaction := .code, statusByte := s.statusByteOf p, dataOut := [] } }) ∧
    (s.interfacesRun = false → (s.port p).selected = false →
      exec (.transactionStart p) s = .next { s with ports := s.ports.set p { s.port p with selected := true } }) ∧
    ((s.port p).selected = true → exec (.transactionStart p) s = .next s)

/-- Chip-select's rise judges a frame: a good frame is taken by an empty slot and rejected by a slot in use, any other
length or code is a frame error, and nothing is judged without a byte or outside CODE and BODY. The bytes of a
STATUS or FETCH still in CODE or in SHIFT-OUT are served first, as the STATUS or FETCH command serves them (log entry 6).
A stopped port sees the pin alone. That the command changes nothing where chip-select is high already is the model's choice
(log entry 2). -/
def Obligations.TransactionEndJudges : Prop :=
  (∀ (s : State) (p : Port), s.interfacesRun = true → (s.port p).selected = true →
      (∀ (code : Byte) (body : List Byte), (s.port p).transaction = .code ∨ (s.port p).transaction = .body →
        code ≠ statusCode → code ≠ fetchCode →
        let q := { s.port p with selected := false, transaction := .idle, dataOut := List.replicate body.length 0#8 }
        (bodyLength code = some body.length → (s.port p).slot = .empty →
          exec (.transactionEnd p (code :: body)) s = .next { s with
            ports := s.ports.set p { q with slot := .request (code :: body), reply := .pending, stream := none } }) ∧
        (bodyLength code = some body.length → (s.port p).slot ≠ .empty →
          exec (.transactionEnd p (code :: body)) s = .next { s with ports := s.ports.set p { q with reject := true } }) ∧
        (bodyLength code ≠ some body.length →
          exec (.transactionEnd p (code :: body)) s = .next { s with
            ports := s.ports.set p { q with frame := true, framePending := true } })) ∧
      exec (.transactionEnd p []) s = .next { s with
        ports := s.ports.set p { s.port p with selected := false, transaction := .idle } } ∧
      (∀ (body : List Byte) (t : State), (s.port p).transaction = .code →
        (exec (.status p body.length) s = .next t →
          exec (.transactionEnd p (statusCode :: body)) s = exec (.transactionEnd p []) t) ∧
        (exec (.fetch p body.length) s = .next t →
          exec (.transactionEnd p (fetchCode :: body)) s = exec (.transactionEnd p []) t)) ∧
      (∀ (bytes : List Byte) (rest : List Byte) (t : State),
        (∀ reported, (s.port p).transaction = .shiftOut (.status reported) rest →
          exec (.status p bytes.length) s = .next t →
            exec (.transactionEnd p bytes) s = exec (.transactionEnd p []) t) ∧
        ∀ ready, (s.port p).transaction = .shiftOut (.fetch ready) rest →
          exec (.fetch p bytes.length) s = .next t →
            exec (.transactionEnd p bytes) s = exec (.transactionEnd p []) t) ∧
      ∀ bytes, (s.port p).transaction = .lockedOut →
        exec (.transactionEnd p bytes) s = .next { s with
          ports := s.ports.set p { s.port p with selected := false, transaction := .idle } }) ∧
  ∀ (s : State) (p : Port) (bytes : List Byte),
    (s.interfacesRun = false → (s.port p).selected = true →
      exec (.transactionEnd p bytes) s = .next { s with ports := s.ports.set p { s.port p with selected := false } }) ∧
    ((s.port p).selected = false → exec (.transactionEnd p bytes) s = .next s)

/-- The PORT-FRAME raise in a grant of its own: the fault is raised for the port, which then holds none pending. -/
def Obligations.PortFrameRaiseRaises : Prop :=
  ∀ (s : State) (p : Port), (s.port p).framePending = true → s.requestWaiting p = false →
    s.nextGrant = some (.port p) →
    exec (.portFrameRaise p) s = .next { s with
      ports := s.ports.set p { s.port p with framePending := false }
      faults := s.faults.raise .portFrame (.port p) s.clock.interval
      arbiter := s.arbiterAfter p }

/-- STATUS copies the sixteen extended bytes as byte 0 completes and shifts them out, then zeros. Clocking the sixteenth clears
REJECT and FRAME where the status byte reported them and SETTLED where the copy reported it, and nothing before it
does. It may be clocked in parts, so that a SETTLED flag set after a copy that reported it clear stays set (log entry 6). -/
def Obligations.StatusShiftsAndClears : Prop :=
  ∀ (s : State) (p : Port) (n : Nat),
    (s.interfacesRun = true → (s.port p).transaction = .code →
      let out := s.extendedBytes p
      let full := decide (16 ≤ n)
      exec (.status p n) s = .next { s with
        ports := s.ports.set p { s.port p with
          transaction := .shiftOut (.status (s.port p).settled) (out.drop n)
          dataOut := (out ++ List.replicate n 0#8).take n
          reject := (s.port p).reject && !(full && (s.port p).statusByte.getLsbD 3)
          frame := (s.port p).frame && !(full && (s.port p).statusByte.getLsbD 2)
          settled := (s.port p).settled && !full } }) ∧
    (s.interfacesRun = true → ∀ reported rest, (s.port p).transaction = .shiftOut (.status reported) rest →
      let full := decide (rest ≠ []) && decide (rest.length ≤ n)
      exec (.status p n) s = .next { s with
        ports := s.ports.set p { s.port p with
          transaction := .shiftOut (.status reported) (rest.drop n)
          dataOut := (s.port p).dataOut ++ (rest ++ List.replicate n 0#8).take n
          reject := (s.port p).reject && !(full && (s.port p).statusByte.getLsbD 3)
          frame := (s.port p).frame && !(full && (s.port p).statusByte.getLsbD 2)
          settled := (s.port p).settled && !(full && reported) } }) ∧
    (s.interfacesRun = false → exec (.status p n) s = .next s)

/-- FETCH shifts out the reply, or PENDING, as the buffer stands when byte 0 completes; a full FETCH marks the reply fetched,
starts the next record of a stream, or ends the stream with END; a short FETCH has no effect on the reply. A FETCH clocked
in two parts leaves what one clocked at once leaves: that it may be clocked so is the model's choice (log entry 6). -/
def Obligations.FetchReturnsReply : Prop :=
  ∀ (s : State) (p : Port) (n : Nat),
    (s.interfacesRun = true → (s.port p).transaction = .code →
      (∀ r data fetched, (s.port p).reply = .ready r data fetched →
        let bytes := r.code :: (bigEndian 2 data.length ++ data)
        let q := { s.port p with
          transaction := .shiftOut (.fetch true) (bytes.drop n), dataOut := (bytes ++ List.replicate n 0#8).take n }
        (n < data.length + 3 → exec (.fetch p n) s = .next { s with ports := s.ports.set p q }) ∧
        (data.length + 3 ≤ n → (s.port p).stream = none →
          exec (.fetch p n) s = .next { s with ports := s.ports.set p { q with reply := .ready r data true } }) ∧
        (∀ next, data.length + 3 ≤ n → (s.port p).stream = some ⟨next, 0⟩ →
          exec (.fetch p n) s = .next { s with
            ports := s.ports.set p { q with reply := .ready .atEnd [] false, stream := none } }) ∧
        (∀ next left, data.length + 3 ≤ n → (s.port p).stream = some ⟨next, left + 1⟩ →
          exec (.fetch p n) s = .next { s with
            ports := s.ports.set p { q with reply := .pending, slot := .preparing } })) ∧
      ((∀ r data fetched, (s.port p).reply ≠ .ready r data fetched) →
        exec (.fetch p n) s = .next { s with
          ports := s.ports.set p { s.port p with
            transaction := .shiftOut (.fetch false) ([0x01#8, 0#8, 0#8].drop n)
            dataOut := ([0x01#8, 0#8, 0#8] ++ List.replicate n 0#8).take n } })) ∧
    (s.interfacesRun = true → ∀ m t,
      ((s.port p).transaction = .code ∨ ∃ ready rest, (s.port p).transaction = .shiftOut (.fetch ready) rest) →
      exec (.fetch p m) s = .next t → exec (.fetch p n) t = exec (.fetch p (m + n)) s) ∧
    (s.interfacesRun = false → exec (.fetch p n) s = .next s)

/-- What each port shows outside: the eight flags of the status byte, the sixteen extended bytes, the attention output, which
is asserted while an enabled source is true and the interfaces run, and the data-out line, at high impedance while
chip-select is high and while the interfaces are stopped. -/
def Obligations.PortOutputs : Prop :=
  ∀ (s : State) (p : Port),
    let q := s.port p
    let noticed := ∃ i, s.faults.noticeAt p i = true
    let noticeSource := noticed ∨ s.faults.overflow.get p = true
    let replySource := ∃ r data, q.reply = .ready r data false
    let statementSource := p = .billing ∧ s.queue ≠ []
    let x := s.statusByteOf p
    let a := s.attentionByte p
    ((x.getLsbD 7 = true ↔ noticed) ∧ x.getLsbD 6 = s.faults.overflow.get p ∧
      (x.getLsbD 5 = true ↔ ∃ r data fetched, q.reply = .ready r data fetched) ∧
      (x.getLsbD 4 = true ↔ q.reply = .pending) ∧ x.getLsbD 3 = q.reject ∧ x.getLsbD 2 = q.frame ∧
      (x.getLsbD 1 = true ↔ s.settle ≠ .idle) ∧ (x.getLsbD 0 = true ↔ s.clock.store = .blank)) ∧
    ((a.getLsbD 7 = true ↔ noticeSource) ∧ (a.getLsbD 6 = true ↔ replySource) ∧ a.getLsbD 5 = q.settled ∧
      (a.getLsbD 4 = true ↔ statementSource) ∧ a.getLsbD 3 = q.enables.notice ∧ a.getLsbD 2 = q.enables.reply ∧
      a.getLsbD 1 = q.enables.settled ∧ a.getLsbD 0 = q.enables.statement) ∧
    (s.attention p = true ↔ s.interfacesRun = true ∧
      (noticeSource ∧ q.enables.notice = true ∨ replySource ∧ q.enables.reply = true ∨
        q.settled = true ∧ q.enables.settled = true ∨ statementSource ∧ q.enables.statement = true)) ∧
    (∃ settle store supply conditions : Byte,
      s.extendedBytes p =
        [match s.faults.firstNotice p with | some i => BitVec.ofNat 8 i.val | none => 0xFF#8,
          BitVec.ofNat 8 (s.faults.noticeCount p), BitVec.ofNat 8 s.queue.length] ++
        bigEndian 4 s.clock.interval ++ bigEndian 2 s.period ++ bigEndian 2 s.clock.elapsed ++
        [settle, store, supply, a, conditions] ∧
      settle = (match s.settle with
        | .idle => 0#8 | .compute _ _ => 1#8 | .post _ _ _ => 2#8 | .closeout _ _ _ _ => 3#8) ∧
      store = (match s.clock.store with | .blank => 0#8 | .aligning => 1#8 | .running => 2#8) ∧
      supply = (match s.supervisor.supply with | .run => 0#8 | .hold => 1#8 | .off => 2#8) +
        (if s.supervisor.backupLow then 128#8 else 0#8) ∧
      (∀ i, 4 ≤ i → conditions.getLsbD i = false) ∧ conditions.getLsbD 0 = q.settled ∧
      conditions.getLsbD 1 = s.clock.tickLoss ∧ conditions.getLsbD 2 = s.clock.deferred ∧
      conditions.getLsbD 3 = s.stagedClose) ∧
    (s.interfacesRun = false ∨ q.selected = false → s.dataLine p = none) ∧
    (s.interfacesRun = true → q.selected = true → q.transaction ≠ .lockedOut →
      s.dataLine p = some (q.statusByte :: q.dataOut))

/-- The Store Arbiter: who waits; nothing granted while a grant is in progress, while a deferred boundary is due, or to
anybody with the interfaces stopped; otherwise the drain, then the Settle Engine unless a member of its yield set waits,
then the ports, Plant Port first unless the turn is the other's. Only an operation of the Settle Engine puts requesters
into the yield set, and only those that wait at its end. -/
def Obligations.ArbiterGrants : Prop :=
  ∀ s : State,
    let w := fun r => s.waiting r = true
    (w .drain ↔ s.interfacesRun = true ∧
      (s.capture ≠ [] ∨ ∃ m h, (s.meter m).held = some h ∧ s.holdActive m h.account = false)) ∧
    (w .settle ↔ s.interfacesRun = true ∧ s.settle ≠ .idle) ∧
    (∀ p, w (.port p) ↔ s.interfacesRun = true ∧ ((s.port p).framePending = true ∨ (s.port p).slot = .preparing ∨
      ∃ frame, (s.port p).slot = .request frame ∧ ownerAllows p frame = true)) ∧
    (s.arbiter.granted ≠ none ∨ (s.clock.store = .running ∧ s.clock.deferred = true ∧ s.settle = .idle) ∨
      s.interfacesRun = false → s.nextGrant = none) ∧
    (s.arbiter.granted = none → s.deferredDue = false →
      (w .drain → s.nextGrant = some .drain) ∧
      (¬ w .drain → w .settle → (∀ r ∈ s.arbiter.yieldSet, ¬ w r) → s.nextGrant = some .settle) ∧
      (¬ w .drain → (¬ w .settle ∨ ∃ r ∈ s.arbiter.yieldSet, w r) →
        (∀ p, w (.port p) → ¬ w (.port p.other) → s.nextGrant = some (.port p)) ∧
        (w (.port .plant) → w (.port .billing) →
          s.nextGrant = some (.port (if s.arbiter.turn = some .billing then .billing else .plant))) ∧
        (¬ w (.port .plant) → ¬ w (.port .billing) → s.nextGrant = none))) ∧
    ∀ (c : Instr) (t : State), exec c s = .next t → ∀ r ∈ t.arbiter.yieldSet,
      r ∈ s.arbiter.yieldSet ∨
        (c ∈ [.computeRead, .accountPost, .closeoutVisit, .periodStep, .summaryWrite] ∧ t.waiting r = true)

/-! ## The Fault Table -/

/-- Raises and ends: a raise with an entry counts in it and sets the notices by the masks, unless the condition is still
active; without one it makes an entry at the first free position from the cursor with the first free sequence number from
the counter, or nothing when both ports mask the class, or sets OVERFLOW of each unmasking port when the table is full. An
end clears ACTIVE and frees the entry when no notice is set, and changes nothing otherwise. -/
def Obligations.FaultTableRules : Prop :=
  ∀ (f : Faults) (c : FaultClass) (sub : Subject) (n : Nat),
    let hears := fun p => !(f.mask.get p).getLsbD c.code.val
    let held := fun k => ∃ i e, f.entries.get i = some e ∧ e.seq = k
    let ahead := fun k => (k + 65536 - f.counter) % 65536
    (∀ i e, f.unique → f.entries.get i = some e → e.cls = c → e.subject = sub →
      f.raise c sub n = { f with entries := f.entries.set i (some { e with
        occurrences := min 255 (e.occurrences + 1), last := n, active := c.isCondition
        notice := if c.isCondition && e.active then e.notice
          else ⟨e.notice.plant || hears .plant, e.notice.billing || hears .billing⟩ }) } ∧
      (e.active = true →
        let left := if e.notice.plant || e.notice.billing then some { e with active := false } else none
        f.endCondition c sub = { f with entries := f.entries.set i left }) ∧
      (e.active = false → f.endCondition c sub = f)) ∧
    ((∀ i e, f.entries.get i = some e → ¬ (e.cls = c ∧ e.subject = sub)) →
      f.endCondition c sub = f ∧
      (hears .plant = false → hears .billing = false → f.raise c sub n = f) ∧
      (hears .plant = true ∨ hears .billing = true →
        ((∀ i, f.entries.get i ≠ none) → f.raise c sub n = { f with
          overflow := ⟨f.overflow.plant || hears .plant, f.overflow.billing || hears .billing⟩ }) ∧
        ∀ (i : Position) (k : Nat), f.counter < 65536 → f.entries.get i = none →
          (∀ j, (j - f.cursor).val < (i - f.cursor).val → f.entries.get j ≠ none) →
          k < 65536 → ¬ held k → (∀ k', k' < 65536 → ahead k' < ahead k → held k') →
          f.raise c sub n = { f with
            entries := f.entries.set i (some {
              seq := k, cls := c, subject := sub, first := n, last := n, occurrences := 1, active := c.isCondition
              notice := ⟨hears .plant, hears .billing⟩ })
            counter := (k + 1) % 65536
            cursor := i + 1 }))

/-! ## Plant Port requests -/

/-- SET BAND, SET INTERVAL LENGTH and SET TOLERANCE stage a value, clamped where it is a number, and SET PRICES stages
eight prices; the reply carries the staged value, and the value in force is unchanged. -/
def Obligations.StagingRequests : Prop :=
  ∀ s : State,
    (∀ x : Band, s.grants (.setBand .plant x.code) →
      exec (.setBand .plant x.code) s = .next { s.afterRequest .plant .ok [x.code] with
        clock := { s.clock with stagedBand := some x } }) ∧
    (∀ m : Byte, s.grants (.setIntervalLength .plant m) →
      let n := max 5 (min 60 m.toNat)
      exec (.setIntervalLength .plant m) s = .next { s.afterRequest .plant .ok [BitVec.ofNat 8 n] with
        clock := { s.clock with stagedLength := some n } }) ∧
    (∀ x : Half, s.grants (.setTolerance .plant x) →
      let n := min 255 x.toNat
      exec (.setTolerance .plant x) s = .next { s.afterRequest .plant .ok [BitVec.ofNat 8 n] with
        clock := { s.clock with stagedTolerance := some n } }) ∧
    ∀ h0 h1 h2 h3 c0 c1 c2 c3 : Half, s.grants (.setPrices .billing ⟨⟨h0, h1, h2, h3⟩, ⟨c0, c1, c2, c3⟩⟩) →
      exec (.setPrices .billing ⟨⟨h0, h1, h2, h3⟩, ⟨c0, c1, c2, c3⟩⟩) s = .next { s.afterRequest .billing .ok [] with
        clock := { s.clock with
          stagedPrices := some ⟨⟨h0.toNat, h1.toNat, h2.toNat, h3.toNat⟩, ⟨c0.toNat, c1.toNat, c2.toNat, c3.toNat⟩⟩ } }

/-- SET RUNTIME LINE writes the two flags of its line at once and keeps its count, SET NO-ADVANCE writes its three clamped
values, and SET LINE RATE sets the rate and abandons the frame being received. -/
def Obligations.ImmediatePlantSettings : Prop :=
  ∀ s : State,
    (∀ (l : LineNo) (enable polarity : Byte), s.grants (.setRuntimeLine .plant (BitVec.ofNat 8 l.val) enable polarity) →
      exec (.setRuntimeLine .plant (BitVec.ofNat 8 l.val) enable polarity) s =
        .next { s.afterRequest .plant .ok [] with
          lines := s.lines.set l { s.lines.get l with
            enabled := decide (enable.toNat ≠ 0), activeLow := decide (polarity.toNat ≠ 0) } }) ∧
    (∀ (o a : Half) (w : Byte), s.grants (.setNoAdvance .plant o a w) →
      let o' := min 900 o.toNat
      let w' := max 1 (min 15 w.toNat)
      exec (.setNoAdvance .plant o a w) s =
        .next { s.afterRequest .plant .ok (bigEndian 2 o' ++ bigEndian 2 a.toNat ++ [BitVec.ofNat 8 w']) with
          noAdvance := { openMin := o', advanceMin := a.toNat, window := w' } }) ∧
    ∀ x : LineRate, s.grants (.setLineRate .plant x.code) →
      exec (.setLineRate .plant x.code) s = .next { s.afterRequest .plant .ok [] with lineRate := x, receiver := .idle }

/-- CONFIGURE METER clamps its numbers, refuses an address another slot that is not OFF holds, and a new service or scale
on an assigned slot; it makes an OFF slot UNREFERENCED, and on a change of service a LIVE or LATE slot too. That the
reference of a register no longer used becomes 0 is inferred from R44 (log entry 12). -/
def Obligations.ConfigureMeter : Prop :=
  ∀ (s : State) (m : SlotNo) (address late : Byte) (spike : Word) (v : MeterService) (x : Scale),
    let c := Instr.configureMeter .plant (BitVec.ofNat 8 m.val) address v.code x.code spike late
    let k := s.meter m
    let a := max 1 (min 250 address.toNat)
    let sp := min 268435455 spike.toNat
    let lt := max 1 (min 15 late.toNat)
    let u := s.afterRequest .plant .ok ([BitVec.ofNat 8 a, v.code, x.code] ++ bigEndian 4 sp ++ [BitVec.ofNat 8 lt])
    let k' := { k with address := a, service := v, scale := x, spikeLimit := sp, lateLimit := lt }
    s.grants c →
    ((∃ n, n ≠ m ∧ (s.meter n).state ≠ .off ∧ (s.meter n).address = a) →
      exec c s = .next (s.afterRequest .plant .duplicate [])) ∧
    ((∀ n, n ≠ m → (s.meter n).state ≠ .off → (s.meter n).address ≠ a) →
      (k.target ≠ .unassigned → (v ≠ k.service ∨ x ≠ k.scale) →
        exec c s = .next (s.afterRequest .plant .wrongState [])) ∧
      ((k.target = .unassigned ∨ (v = k.service ∧ x = k.scale)) →
        (k.state = .off →
          exec c s = .next { u with meters := s.meters.set m { k' with
            state := .unreferenced, reference1 := 0#32, reference2 := 0#32, missed := 0, errorStreak := 0
            frameSeen := false } }) ∧
        (k.state ≠ .off → v = k.service → exec c s = .next { u with meters := s.meters.set m k' }) ∧
        (k.state ≠ .off → v ≠ k.service →
          exec c s = .next { u with
            meters := s.meters.set m { k' with
              state := if k.state = .live ∨ k.state = .late then .unreferenced else k.state
              reference1 := if v = .cool then 0#32 else k.reference1
              reference2 := if v = .heat then 0#32 else k.reference2 }
            faults := if k.state = .late then u.faults.endCondition .meterLate (.meter m) else u.faults })))

/-- RETIRE METER makes the slot OFF, ends its condition, removes its assignment and tells the Fault Table of it. -/
def Obligations.RetireMeter : Prop :=
  ∀ (s : State) (m : SlotNo),
    let c := Instr.retireMeter .plant (BitVec.ofNat 8 m.val)
    let k := s.meter m
    let u := s.afterRequest .plant .ok []
    let ended := if k.state = .late then u.faults.endCondition .meterLate (.meter m)
      else if k.state = .suspect then u.faults.endCondition .meterSuspect (.meter m) else u.faults
    let off := { k with
      state := .off, reference1 := 0#32, reference2 := 0#32, missed := 0, errorStreak := 0, frameSeen := false
      target := .unassigned }
    s.grants c →
    (k.state = .off → exec c s = .next (s.afterRequest .plant .wrongState [])) ∧
    (k.state ≠ .off → k.target = .unassigned →
      exec c s = .next { u with meters := s.meters.set m off, faults := ended }) ∧
    (∀ a, k.state ≠ .off → k.target = .account a →
      exec c s = .next { u with
        meters := s.meters.set m off
        accounts := s.accounts.set a { s.account a with
          meterPos := ⟨if (s.account a).meterPos.heating = some m then none else (s.account a).meterPos.heating,
            if (s.account a).meterPos.cooling = some m then none else (s.account a).meterPos.cooling⟩ }
        faults := ended.raise .meterRetiredAssigned (.meter m) s.clock.interval }) ∧
    ∀ q, k.state ≠ .off → k.target = .pool q →
      exec c s = .next { u with
        meters := s.meters.set m off
        pools := s.pools.set q ((s.pools.get q).filter fun n => decide (n ≠ m))
        faults := ended.raise .meterRetiredAssigned (.meter m) s.clock.interval }

/-- RE-REFERENCE METER makes a slot UNREFERENCED, ends its condition and clears the estimate balances of the account
services it credits; its accumulation and owner stay. -/
def Obligations.ReReferenceMeter : Prop :=
  ∀ (s : State) (m : SlotNo),
    let c := Instr.reReferenceMeter .plant (BitVec.ofNat 8 m.val)
    let k := s.meter m
    let u := s.afterRequest .plant .ok []
    let ended := if k.state = .late then u.faults.endCondition .meterLate (.meter m)
      else if k.state = .suspect then u.faults.endCondition .meterSuspect (.meter m) else u.faults
    let fresh := { k with
      state := .unreferenced, reference1 := 0#32, reference2 := 0#32, missed := 0, errorStreak := 0
      frameSeen := false }
    s.grants c → s.settleInFlight = false →
    (k.state = .off → exec c s = .next (s.afterRequest .plant .wrongState [])) ∧
    (k.state ≠ .off → (∀ a, k.target ≠ .account a) →
      exec c s = .next { u with meters := s.meters.set m fresh, faults := ended }) ∧
    ∀ a, k.state ≠ .off → k.target = .account a →
      exec c s = .next { u with
        meters := s.meters.set m fresh
        accounts := s.accounts.set a { s.account a with
          work := ⟨if k.service = .cool then (s.account a).work.heating
              else { (s.account a).work.heating with balance := 0 },
            if k.service = .heat then (s.account a).work.cooling
              else { (s.account a).work.cooling with balance := 0 }⟩ }
        faults := ended }

/-- POST PLANT READING by the slot's state: REFERENCED, ADDED, REJECTED with its event and the PLANT-HELD condition, or
refused in HELD. The raw delta is taken modulo 2^32; 2^31 or more is a rollback; an energy above the cap is a spike.
RE-REFERENCE PLANT makes the slot UNREFERENCED in any state, ending PLANT-HELD; CONFIGURE PLANT sets the scale of a slot
that is not LIVE. -/
def Obligations.PlantSlots : Prop :=
  (∀ (s : State) (sv : Service) (count : Word),
      let c := Instr.postPlantReading .plant (serviceCode sv) count
      let k := s.plant.get sv
      let raw := (count - k.reference).toNat
      let energy := raw * k.scale.factor
      let u := fun action => s.afterRequest .plant .ok [BitVec.ofNat 8 action]
      s.grants c →
      (k.state = .unreferenced →
        exec c s = .next { u 0 with plant := s.plant.set sv { k with reference := count, state := .live } }) ∧
      (k.state = .live → raw < 2147483648 → energy ≤ 268435455 →
        exec c s = .next { u 1 with
          plant := s.plant.set sv { k with
            reference := count, delta := min 268435455 (k.delta + energy), posted := true } }) ∧
      (k.state = .live → 2147483648 ≤ raw →
        exec c s = .next { u 2 with
          plant := s.plant.set sv { k with state := .held }
          faults := ((u 2).faults.raise .plantRollback (.plant sv) s.clock.interval).raise .plantHeld (.plant sv)
            s.clock.interval }) ∧
      (k.state = .live → raw < 2147483648 → 268435455 < energy →
        exec c s = .next { u 2 with
          plant := s.plant.set sv { k with state := .held }
          faults := ((u 2).faults.raise .plantSpike (.plant sv) s.clock.interval).raise .plantHeld (.plant sv)
            s.clock.interval }) ∧
      (k.state = .held → exec c s = .next (s.afterRequest .plant .wrongState []))) ∧
  ∀ (s : State) (sv : Service),
    let k := s.plant.get sv
    let u := s.afterRequest .plant .ok []
    (s.grants (.reReferencePlant .plant (serviceCode sv)) →
      exec (.reReferencePlant .plant (serviceCode sv)) s = .next { u with
        plant := s.plant.set sv { k with state := .unreferenced, reference := 0#32 }
        faults := if k.state = .held then u.faults.endCondition .plantHeld (.plant sv) else u.faults }) ∧
    ∀ x : Scale, s.grants (.configurePlant .plant (serviceCode sv) x.code) →
      (k.state = .live → exec (.configurePlant .plant (serviceCode sv) x.code) s =
        .next (s.afterRequest .plant .wrongState [])) ∧
      (k.state ≠ .live → exec (.configurePlant .plant (serviceCode sv) x.code) s =
        .next { u with plant := s.plant.set sv { k with scale := x } })

/-- MARK by store state: refused in BLANK, the alignment boundary in ALIGNING, and in RUNNING with no settle in flight a
boundary or a stretch by the half-length rule. The METER-LATE raises of a boundary in slot order are inferred (log entry
13). -/
def Obligations.MarkHalfLengthRule : Prop :=
  ∀ s : State, s.grants (.mark .plant) →
    (s.clock.store = .blank → exec (.mark .plant) s = .next (s.afterRequest .plant .wrongState [])) ∧
    (s.clock.store = .aligning → ∃ t, exec (.mark .plant) s = .next t ∧
      (s.afterRequest .plant .ok [2#8]).tookAlignment t ∧ t.faults = s.faultsAt .plant ∧
      t.ports = (s.afterRequest .plant .ok [2#8]).ports ∧ t.arbiter = s.arbiterAfter .plant) ∧
    (s.clock.store = .running → s.settleInFlight = false →
      (s.clock.tickLoss = true ∨ s.clock.length * 30 ≤ s.clock.elapsed → ∃ t, exec (.mark .plant) s = .next t ∧
        (s.afterRequest .plant .ok [0#8]).tookBoundary t ∧
        t.ports = (s.afterRequest .plant .ok [0#8]).ports ∧ t.arbiter = s.arbiterAfter .plant) ∧
      (s.clock.tickLoss = false → s.clock.elapsed < s.clock.length * 30 →
        exec (.mark .plant) s = .next { s.afterRequest .plant .ok [1#8] with
          clock := { s.clock with elapsed := 0, flags := { s.clock.flags with stretched := true } } }))

/-! ## Billing Port requests -/

/-- MOVE IN opens a tenancy on a VACANT tenant account, answers STATEMENTS-PENDING on a FINAL one, and WRONG-STATE in any
other state, on account 0, and in BLANK. MOVE OUT and CANCEL MOVE: an OCCUPIED account becomes CLOSING and back, an OPENING
account VACANT under either; every other state, and account 0, is refused. -/
def Obligations.TenancyMoves : Prop :=
  ∀ (s : State) (a : AccountNo),
    let out := Instr.moveOut .billing (BitVec.ofNat 8 a.val)
    let cancel := Instr.cancelMove .billing (BitVec.ofNat 8 a.val)
    let r := s.account a
    let u := s.afterRequest .billing .ok []
    (∀ tag : Word, let enter := Instr.moveIn .billing (BitVec.ofNat 8 a.val) tag
      s.grants enter →
      (s.clock.store ≠ .blank → a ≠ 0 → r.tenancy = .vacant →
        exec enter s = .next { u with
          accounts := s.accounts.set a { r with tenancy := .opening, staged := some (.moveIn tag) } }) ∧
      (s.clock.store ≠ .blank → a ≠ 0 → r.tenancy = .final →
        exec enter s = .next (s.afterRequest .billing .statementsPending [])) ∧
      (s.clock.store = .blank ∨ a = 0 ∨ (r.tenancy ≠ .vacant ∧ r.tenancy ≠ .final) →
        exec enter s = .next (s.afterRequest .billing .wrongState []))) ∧
    (s.grants out →
      (a ≠ 0 → r.tenancy = .occupied → exec out s = .next { u with
        accounts := s.accounts.set a { r with tenancy := .closing, staged := some .moveOut } }) ∧
      (a ≠ 0 → r.tenancy = .opening → exec out s = .next { u with
        accounts := s.accounts.set a { r with tenancy := .vacant, staged := none } }) ∧
      (a = 0 ∨ (r.tenancy ≠ .occupied ∧ r.tenancy ≠ .opening) →
        exec out s = .next (s.afterRequest .billing .wrongState []))) ∧
    (s.grants cancel →
      (a ≠ 0 → r.tenancy = .closing → exec cancel s = .next { u with
        accounts := s.accounts.set a { r with tenancy := .occupied, staged := none } }) ∧
      (a ≠ 0 → r.tenancy = .opening → exec cancel s = .next { u with
        accounts := s.accounts.set a { r with tenancy := .vacant, staged := none } }) ∧
      (a = 0 ∨ (r.tenancy ≠ .closing ∧ r.tenancy ≠ .opening) →
        exec cancel s = .next (s.afterRequest .billing .wrongState [])))

/-- JOIN PAIR joins the upper account of a pair that is VACANT on both sides; SPLIT PAIR makes it VACANT again with the
vacancy reset while the lower account is VACANT. -/
def Obligations.PairRequests : Prop :=
  ∀ (s : State) (l u : AccountNo), l.val % 2 = 1 → u.val = l.val + 1 → s.settleInFlight = false →
    let join := Instr.joinPair .billing (BitVec.ofNat 8 l.val)
    let split := Instr.splitPair .billing (BitVec.ofNat 8 l.val)
    (s.grants join →
      ((s.account l).tenancy = .vacant ∧ (s.account u).tenancy = .vacant →
        exec join s = .next { s.afterRequest .billing .ok [] with
          accounts := s.accounts.set u { s.account u with tenancy := .joined } }) ∧
      (¬ ((s.account l).tenancy = .vacant ∧ (s.account u).tenancy = .vacant) →
        exec join s = .next (s.afterRequest .billing .wrongState []))) ∧
    (s.grants split →
      ((s.account u).tenancy = .joined ∧ (s.account l).tenancy = .vacant →
        exec split s = .next { s.afterRequest .billing .ok [] with
          accounts := s.accounts.set u { s.account u with
            tenancy := .vacant, tag := none, work := ⟨⟨0, 0, [], 0⟩, ⟨0, 0, [], 0⟩⟩, firstInterval := 0 } }) ∧
      (¬ ((s.account u).tenancy = .joined ∧ (s.account l).tenancy = .vacant) →
        exec split s = .next (s.afterRequest .billing .wrongState [])))

/-- SET ACCOUNT stages a whole set of settings, unless it names one line for both its services or a line that another
account's service will hold after the next boundary. -/
def Obligations.SetAccount : Prop :=
  ∀ (s : State) (a : AccountNo) (bh bc : Basis) (lh lc : Option LineNo) (ph pc retail office : Half) (share : Byte),
    let c := Instr.setAccount .billing (BitVec.ofNat 8 a.val)
      { basis := ⟨bh.code, bc.code⟩, power := ⟨ph, pc⟩, line := ⟨numberByte lh, numberByte lc⟩, retailWeight := retail
        officeWeight := office, lossShare := share }
    let clash := (lh = lc ∧ lh ≠ none) ∨
      ∃ (b : AccountNo) (sv : Service) (l : LineNo), b ≠ a ∧ State.lineAfter s b sv = some l ∧
        (lh = some l ∨ lc = some l)
    s.grants c →
    (clash → exec c s = .next (s.afterRequest .billing .wrongState [])) ∧
    (¬ clash → exec c s = .next { s.afterRequest .billing .ok [] with
      accounts := s.accounts.set a { s.account a with
        stagedSettings := some
          { basis := ⟨bh, bc⟩, power := ⟨ph.toNat, pc.toNat⟩, line := ⟨lh, lc⟩, retailWeight := retail.toNat
            officeWeight := office.toNat, lossShare := decide (share.toNat ≠ 0) } } })

/-- ASSIGN METER to an account or a pool, with its refusals: the slot OFF, assigned, or holding deltas; the account's
position taken, or the pool full; energy gathered for another owner. UNASSIGN METER empties the target's place and leaves
the accumulation with its owner. -/
def Obligations.MeterAssignment : Prop :=
  (∀ (s : State) (m : SlotNo),
      let k := s.meter m
      let free := fun g : Target => k.state ≠ .off ∧ k.target = .unassigned ∧ k.held = none ∧
        (k.accumulation = ⟨0, 0⟩ ∨ k.owner = g)
      let room := fun a : AccountNo => (k.service = .cool ∨ (s.account a).meterPos.heating = none) ∧
        (k.service = .heat ∨ (s.account a).meterPos.cooling = none)
      let assigned := fun g : Target => s.meters.set m { k with target := g, owner := g }
      (∀ a : AccountNo,
        let c := Instr.assignMeter .billing (BitVec.ofNat 8 m.val) 1#8 (BitVec.ofNat 8 a.val)
        s.grants c →
        (free (.account a) ∧ room a → exec c s = .next { s.afterRequest .billing .ok [] with
          meters := assigned (.account a)
          accounts := s.accounts.set a { s.account a with
            meterPos := ⟨if k.service = .cool then (s.account a).meterPos.heating else some m,
              if k.service = .heat then (s.account a).meterPos.cooling else some m⟩ } }) ∧
        (¬ (free (.account a) ∧ room a) → exec c s = .next (s.afterRequest .billing .wrongState []))) ∧
      ∀ q : Pool,
        let c := Instr.assignMeter .billing (BitVec.ofNat 8 m.val) 2#8 q.code
        s.grants c →
        (free (.pool q) ∧ (s.pools.get q).length < 8 → exec c s = .next { s.afterRequest .billing .ok [] with
          meters := assigned (.pool q), pools := s.pools.set q (s.pools.get q ++ [m]) }) ∧
        (¬ (free (.pool q) ∧ (s.pools.get q).length < 8) →
          exec c s = .next (s.afterRequest .billing .wrongState []))) ∧
  ∀ (s : State) (m : SlotNo),
    let c := Instr.unassignMeter .billing (BitVec.ofNat 8 m.val)
    let k := s.meter m
    let loose := s.meters.set m { k with target := .unassigned }
    s.grants c →
    (k.target = .unassigned → exec c s = .next (s.afterRequest .billing .wrongState [])) ∧
    (∀ a, k.target = .account a → exec c s = .next { s.afterRequest .billing .ok [] with
      meters := loose
      accounts := s.accounts.set a { s.account a with
        meterPos := ⟨if (s.account a).meterPos.heating = some m then none else (s.account a).meterPos.heating,
          if (s.account a).meterPos.cooling = some m then none else (s.account a).meterPos.cooling⟩ } }) ∧
    ∀ q, k.target = .pool q → exec c s = .next { s.afterRequest .billing .ok [] with
      meters := loose, pools := s.pools.set q ((s.pools.get q).filter fun n => decide (n ≠ m)) }

/-- CLOSE PERIOD by its five conditions in their order; the reply carries the period number and the staged-close flag
after the request. -/
def Obligations.ClosePeriod : Prop :=
  ∀ s : State,
    let c := Instr.closePeriod .billing
    let reply := fun staged : Bool => bigEndian 2 s.period ++ [if staged then 1#8 else 0#8]
    let pending := (∃ x ∈ s.queue, x.kind = .period) ∨ ∃ b, s.bank = some b ∧ b.periodEnd = true
    s.grants c →
    (s.clock.store ≠ .running → exec c s = .next (s.afterRequest .billing .wrongState (reply s.stagedClose))) ∧
    (s.clock.store = .running → s.stagedClose = true → exec c s = .next (s.afterRequest .billing .ok (reply true))) ∧
    (s.clock.store = .running → s.stagedClose = false → pending →
      exec c s = .next (s.afterRequest .billing .statementsPending (reply false))) ∧
    (s.clock.store = .running → s.stagedClose = false → ¬ pending →
      exec c s = .next { s.afterRequest .billing .ok (reply true) with stagedClose := true })

/-- CANCEL CLOSE makes a staged close absent, is refused with WRONG-STATE when none is staged, and with NOT-OWNER from the
Plant Port; its reply carries the period number and the staged-close flag after the request. -/
def Obligations.CancelClose : Prop :=
  ∀ s : State,
    let reply := bigEndian 2 s.period ++ [0#8]
    (s.grants (.cancelClose .billing) →
      (s.stagedClose = true → exec (.cancelClose .billing) s =
        .next { s.afterRequest .billing .ok reply with stagedClose := false }) ∧
      (s.stagedClose = false → exec (.cancelClose .billing) s = .next (s.afterRequest .billing .wrongState reply))) ∧
    (s.intake .plant (Instr.cancelClose .plant).requestBytes = .held ∨
      s.intake .plant (Instr.cancelClose .plant).requestBytes = .taken →
      exec (.cancelClose .plant) s = .next { s with
        ports := s.ports.set .plant
          { s.answered .plant .notOwner [] with framePending := (s.port .plant).framePending } })

/-- TAKE STATEMENT removes the head and returns it with the number that remain; a FINAL statement's account becomes
VACANT with the vacancy reset, and the working state of its JOINED upper account is reset too. -/
def Obligations.TakeStatement : Prop :=
  ∀ s : State,
    let c := Instr.takeStatement .billing
    s.grants c →
    (s.queue = [] → exec c s = .next (s.afterRequest .billing .empty [0#8])) ∧
    ∀ x rest, s.queue = x :: rest →
      let u := { s.afterRequest .billing .ok (BitVec.ofNat 8 rest.length :: x.bytes) with queue := rest }
      let gone := { s.account x.account with
        tenancy := .vacant, tag := none, work := ⟨⟨0, 0, [], 0⟩, ⟨0, 0, [], 0⟩⟩, firstInterval := 0 }
      (x.kind = .period → exec c s = .next u) ∧
      (x.kind = .final →
        (∀ w : AccountNo, x.account.val % 2 = 1 → w.val = x.account.val + 1 → (s.account w).tenancy = .joined →
          exec c s = .next { u with
            accounts := (s.accounts.set x.account gone).set w { s.account w with
              work := ⟨⟨0, 0, [], 0⟩, ⟨0, 0, [], 0⟩⟩ } }) ∧
        ((∀ w : AccountNo, w.val = x.account.val + 1 → x.account.val % 2 = 1 → (s.account w).tenancy ≠ .joined) →
          exec c s = .next { u with accounts := s.accounts.set x.account gone }))

/-- INITIALISE ACCOUNTS, no settle being in flight: accepted in BLANK whatever the accounts hold, and otherwise only with
every tenant account VACANT and the queue empty. -/
def Obligations.InitialiseAccounts : Prop :=
  ∀ s : State,
    let c := Instr.initialiseAccounts .billing
    let accepted := s.clock.store = .blank ∨
      ((∀ a : AccountNo, a ≠ 0 → (s.account a).tenancy = .vacant) ∧ s.queue = [])
    s.grants c → s.settleInFlight = false →
    (¬ accepted → exec c s = .next (s.afterRequest .billing .wrongState [])) ∧
    (accepted → ∃ t, exec c s = .next t ∧
      t = { s.afterRequest .billing .ok [] with
        accounts := t.accounts, joinedNote := t.joinedNote
        clock := { s.clock with
          store := .aligning, interval := 0, elapsed := 0, deferred := false
          flags := { stretched := false, interrupted := false, tickLoss := s.clock.tickLoss,
                     settingsApplied := false } }
        period := 1, stagedClose := false, queue := [], ring := [] } ∧
      (∀ a, t.joinedNote.get a = false) ∧
      ∀ a, t.account a = { s.account a with
        tenancy := if a = 0 then (s.account a).tenancy else .vacant
        staged := none
        tag := if a = 0 then (s.account a).tag else none
        work := ⟨⟨0, 0, [], 0⟩, ⟨0, 0, [], 0⟩⟩, totals := Totals.zero, firstInterval := 0, settledThrough := 0 })

/-! ## Requests either port may issue -/

/-- SET REPORT MASK writes the issuing port's mask with bits 22 to 31 clear; SET ATN ENABLES writes its enable set, without
STATEMENT on the Plant Port. That the reply shows REPLY false is inferred (log entry 15). -/
def Obligations.OwnPortRequests : Prop :=
  ∀ (s : State) (p : Port),
    (∀ mask : Word, s.grants (.setReportMask p mask) →
      let stored := mask &&& 0x003FFFFF#32
      let u := s.afterRequest p .ok (bigEndian 4 stored.toNat)
      exec (.setReportMask p mask) s = .next { u with
        faults := { u.faults with mask := u.faults.mask.set p stored } }) ∧
    ∀ b : Byte, s.repliesPend → s.grants (.setAtnEnables p b) →
      let e : Enables := { notice := b.getLsbD 3, reply := b.getLsbD 2, settled := b.getLsbD 1
                           statement := b.getLsbD 0 && decide (p = .billing) }
      let f := s.faultsAt p
      let reply := bit (decide (0 < f.noticeCount p) || f.overflow.get p) 7 ||| bit (s.port p).settled 5 |||
        bit (decide (p = .billing) && !s.queue.isEmpty) 4 |||
        bit e.notice 3 ||| bit e.reply 2 ||| bit e.settled 1 ||| bit e.statement 0
      exec (.setAtnEnables p b) s = .next { s.afterRequest p .ok [reply] with
        ports := s.ports.set p { s.answered p .ok [reply] with enables := e } }

/-- ACK NOTICES clears the issuing port's notice on each selected position that holds one, frees the entries that then have
no notice and no ACTIVE flag, and clears the port's OVERFLOW flag when asked; no other entry and nothing of the other
port changes. -/
def Obligations.AckNotices : Prop :=
  ∀ (s : State) (p : Port) (selection : Word) (clear : Byte), s.grants (.ackNotices p selection clear) →
    let f := s.faultsAt p
    let hit := fun i : Position => selection.getLsbD i.val && f.noticeAt p i
    let cleared := fun e : FaultEntry => { e with notice := e.notice.set p false }
    let stays := fun e : FaultEntry => e.active || e.notice.get p.other
    ∃ t g, exec (.ackNotices p selection clear) s = .next t ∧
      (∀ i, g.entries.get i =
        if hit i then (f.entries.get i).bind fun e => if stays e then some (cleared e) else none
        else f.entries.get i) ∧
      g = { f with entries := g.entries, overflow := if clear = 0#8 then f.overflow else f.overflow.set p false } ∧
      t = { s.afterRequest p .ok
        (bigEndian 4 (positionMap hit).toNat ++
         bigEndian 4 (positionMap fun i => hit i && (g.entries.get i).isNone).toNat ++
         [BitVec.ofNat 8 (g.noticeCount p), pointerByte (g.firstNotice p), if g.overflow.get p then 1#8 else 0#8]) with
        faults := g }

/-- Eleven reads change nothing in the store: each reply is the layout of what the store then holds. READ CLOCK, READ METER
and READ TARIFF use up free bytes (log entry 8), READ RUNTIME takes up the line levels (log entry 10). READ STATEMENT
returns the header and the head of the queue, or EMPTY with the header alone; READ INTERVAL SUMMARY the number held and
the summary at the age, or WRONG-STATE with the number alone. -/
def Obligations.ReadsChangeNothing : Prop :=
  (∀ (s : State) (p : Port),
      (∀ a : AccountNo, s.grants (.readAccount p (BitVec.ofNat 8 a.val)) →
        exec (.readAccount p (BitVec.ofNat 8 a.val)) s = .next (s.afterRequest p .ok (Account.bytes a (s.account a)))) ∧
      (s.grants (.readClock p) → exec (.readClock p) s =
        .next { s.afterRequest p .ok s.clockBytes with freeSeq := s.freeSeq + 3 }) ∧
      (∀ m : SlotNo, s.grants (.readMeter p (BitVec.ofNat 8 m.val)) →
        exec (.readMeter p (BitVec.ofNat 8 m.val)) s =
          .next { s.afterRequest p .ok (s.meterBytes m) with freeSeq := s.freeSeq + 2 }) ∧
      (∀ sv : Service, s.grants (.readPlant p (serviceCode sv)) →
        exec (.readPlant p (serviceCode sv)) s = .next (s.afterRequest p .ok (s.plant.get sv).bytes)) ∧
      (s.grants (.readLine p) → exec (.readLine p) s =
        .next (s.afterRequest p .ok [s.lineRate.code, s.receiver.code, BitVec.ofNat 8 s.capture.length])) ∧
      (∀ levels : Half, s.grants (.readRuntime p levels) →
        exec (.readRuntime p levels) s =
          .next { s.afterRequest p .ok { s with linePins := some levels }.runtimeBytes with
            linePins := some levels }) ∧
      (s.grants (.readTariff p) → exec (.readTariff p) s =
        .next { s.afterRequest p .ok s.tariffBytes with freeSeq := s.freeSeq + 2 }) ∧
      (s.grants (.readFaultMap p) → exec (.readFaultMap p) s =
        .next (s.afterRequest p .ok (s.faultsAt p).mapBytes)) ∧
      ∀ i : Position, s.grants (.readFaultEntry p (BitVec.ofNat 8 i.val)) →
        (∀ e, (s.faultsAt p).entries.get i = some e →
          exec (.readFaultEntry p (BitVec.ofNat 8 i.val)) s = .next (s.afterRequest p .ok (e.bytes i))) ∧
        ((s.faultsAt p).entries.get i = none →
          exec (.readFaultEntry p (BitVec.ofNat 8 i.val)) s = .next (s.afterRequest p .wrongState []))) ∧
  ∀ (s : State) (p : Port),
    let header := BitVec.ofNat 8 s.queue.length :: (bigEndian 2 s.period ++ [if s.stagedClose then 1#8 else 0#8])
    (s.grants (.readStatement p) →
      (s.queue = [] → exec (.readStatement p) s = .next (s.afterRequest p .empty header)) ∧
      ∀ x rest, s.queue = x :: rest →
        exec (.readStatement p) s = .next (s.afterRequest p .ok (header ++ x.bytes))) ∧
    ∀ age : Byte, age.toNat ≤ 15 → s.grants (.readIntervalSummary p age) →
      (∀ x, s.ring[age.toNat]? = some x → exec (.readIntervalSummary p age) s =
        .next (s.afterRequest p .ok (BitVec.ofNat 8 s.ring.length :: x.bytes))) ∧
      (s.ring.length ≤ age.toNat → exec (.readIntervalSummary p age) s =
        .next (s.afterRequest p .wrongState [BitVec.ofNat 8 s.ring.length]))

/-- STREAM ACCOUNTS replies with the first account's record and leaves a stream of the records that follow, its count
clamped to 1 and to the accounts that remain; a stream's preparation writes the next account's record, as it then
stands, as a reply with OK, and carries a PORT-FRAME raise that waits, as is inferred (log entry 15). -/
def Obligations.StreamAccounts : Prop :=
  ∀ (s : State) (p : Port) (a : AccountNo),
    let bytes := Account.bytes a (s.account a)
    (∀ count : Byte, s.grants (.streamAccounts p (BitVec.ofNat 8 a.val) count) →
      let n := max 1 (min (48 - a.val) count.toNat)
      exec (.streamAccounts p (BitVec.ofNat 8 a.val) count) s = .next { s.afterRequest p .ok bytes with
        ports := s.ports.set p { s.answered p .ok bytes with stream := some ⟨a.val + 1, n - 1⟩ } }) ∧
    ∀ left, (s.port p).slot = .preparing → (s.port p).stream = some ⟨a.val, left⟩ → s.nextGrant = some (.port p) →
      exec (.streamRecordPrepare p) s = .next { s with
        ports := s.ports.set p { s.port p with
          slot := .empty, reply := .ready .ok bytes false, stream := some ⟨a.val + 1, left - 1⟩, framePending := false }
        faults := s.faultsAt p
        arbiter := s.arbiterAfter p }

/-! ## The meter line -/

/-- A character on MLRX by the receiver's state: address characters, framing errors and data characters that end no frame
and those that do. The gap's expiry makes a frame with data characters a GAP error, and the receiver IDLE from every
state. While the interfaces are stopped a character and a gap are disregarded. -/
def Obligations.MeterLineCharacter : Prop :=
  (∀ s : State, s.interfacesRun = true →
      (∀ address : Byte,
        let there := fun m : SlotNo => (s.meter m).state ≠ .off ∧ (s.meter m).address = address.toNat
        let next := fun t : State =>
          (∀ m, there m → (∀ n, n < m → ¬ there n) → 1 ≤ address.toNat → address.toNat ≤ 250 →
            exec (.meterLineCharacter true address true) s = .next { t with receiver := .addressed m address [] }) ∧
          ((∀ m, ¬ there m) ∨ address.toNat = 0 ∨ 250 < address.toNat →
            exec (.meterLineCharacter true address true) s = .next { t with receiver := .discarding })
        (s.receiver = .idle ∨ s.receiver = .discarding → next s) ∧
        (∀ m a, s.receiver = .addressed m a [] → next s) ∧
        ∀ m a d ds, s.receiver = .addressed m a (d :: ds) → next (State.captured s (.error m a .truncated))) ∧
      (∀ flag data,
        (s.receiver = .idle ∨ s.receiver = .discarding →
          exec (.meterLineCharacter flag data false) s = .next { s with receiver := .discarding }) ∧
        ∀ m a ds, s.receiver = .addressed m a ds → exec (.meterLineCharacter flag data false) s =
          .next { State.captured s (.error m a .framing) with receiver := .discarding }) ∧
      (∀ data, s.receiver = .idle ∨ s.receiver = .discarding → exec (.meterLineCharacter false data true) s = .next s) ∧
      (s.receiver = .idle → exec .gapExpiry s = .next s) ∧
      (s.receiver = .discarding → exec .gapExpiry s = .next { s with receiver := .idle }) ∧
      (∀ m a, s.receiver = .addressed m a [] → exec .gapExpiry s = .next { s with receiver := .idle }) ∧
      (∀ m a d ds, s.receiver = .addressed m a (d :: ds) →
        exec .gapExpiry s = .next { State.captured s (.error m a .gap) with receiver := .idle }) ∧
      ∀ m a ds data, s.receiver = .addressed m a ds →
        (ds.length ≠ 1 → ds.length ≠ 11 → exec (.meterLineCharacter false data true) s =
          .next { s with receiver := .addressed m a (ds ++ [data]) }) ∧
        (∀ d, ds = [d] → data ≠ 0xA5#8 →
          exec (.meterLineCharacter false data true) s = .next { s with receiver := .discarding }) ∧
        (∀ d, ds = [d] → data = 0xA5#8 → d ≠ 11#8 → exec (.meterLineCharacter false data true) s =
          .next { State.captured s (.error m a .length) with receiver := .discarding }) ∧
        (ds = [11#8] → data = 0xA5#8 → exec (.meterLineCharacter false data true) s =
          .next { s with receiver := .addressed m a [11#8, 0xA5#8] }) ∧
        ∀ d1 d2 d3 d4 d5 d6 d7 d8 d9 d10 d11, ds = [d1, d2, d3, d4, d5, d6, d7, d8, d9, d10, d11] →
          exec (.meterLineCharacter false data true) s =
            .next { State.captured s
                (if data = d1 + d2 + d3 + d4 + d5 + d6 + d7 + d8 + d9 + d10 + d11
                 then .frame m a (d6 ++ d5 ++ d4 ++ d3) (d10 ++ d9 ++ d8 ++ d7) d11
                 else .error m a .check) with
              receiver := .discarding }) ∧
  ∀ (s : State) (flag stop : Bool) (data : Byte), s.interfacesRun = false →
    exec (.meterLineCharacter flag data stop) s = .next s ∧ exec .gapExpiry s = .next s

/-- A drain operation starts with the pending LINE-OVERRUN raises and takes the head entry off the queue. An entry whose
slot is OFF or readdressed has no effect, nor has a FRAME of a SUSPECT slot; an ERROR counts in the streak, raises
LINE-FRAME and, when the streak reaches 8, METER-LINK with the slot made SUSPECT; a FRAME of an UNREFERENCED slot without
alarm sets its references. The order of the raises and ends of one operation is inferred (log entry 13). -/
def Obligations.DrainErrorsAndFirstFrames : Prop :=
  ∀ (s : State) (m : SlotNo) (a : Byte) (rest : List CaptureEntry),
    let k := s.meter m
    let n := s.clock.interval
    let u := { s.afterDrain with capture := rest }
    let suspect := fun f : Faults => (if k.state = .late then f.endCondition .meterLate (.meter m) else f).raise
      .meterSuspect (.meter m) n
    let concerned := k.state ≠ .off ∧ k.address = a.toNat
    s.nextGrant = some .drain → s.anyHeldDue = false →
    (∀ e, s.capture = e :: rest →
      ((∃ w, e = .error m a w) ∨ ∃ r1 r2 st, e = .frame m a r1 r2 st) → ¬ concerned →
        exec .drainCaptureEntry s = .next u) ∧
    (∀ w, s.capture = .error m a w :: rest → concerned →
      let counted := { k with errorStreak := min 15 (k.errorStreak + 1) }
      let f := u.faults.raise .lineFrame (.meter m) n
      (k.errorStreak ≠ 7 →
        exec .drainCaptureEntry s = .next { u with meters := s.meters.set m counted, faults := f }) ∧
      (k.errorStreak = 7 → k.state = .suspect →
        exec .drainCaptureEntry s = .next { u with
          meters := s.meters.set m counted, faults := f.raise .meterLink (.meter m) n }) ∧
      (k.errorStreak = 7 → k.state ≠ .suspect →
        exec .drainCaptureEntry s = .next { u with
          meters := s.meters.set m { counted with state := .suspect }
          faults := suspect (f.raise .meterLink (.meter m) n) })) ∧
    ∀ r1 r2 st, s.capture = .frame m a r1 r2 st :: rest → concerned →
      (k.state = .suspect → exec .drainCaptureEntry s = .next u) ∧
      (k.state = .unreferenced → st.getLsbD 0 = true →
        exec .drainCaptureEntry s = .next { u with
          meters := s.meters.set m { k with state := .suspect }
          faults := suspect (u.faults.raise .meterAlarm (.meter m) n) }) ∧
      (k.state = .unreferenced → st.getLsbD 0 = false →
        exec .drainCaptureEntry s = .next { u with
          meters := s.meters.set m { k with
            reference1 := if k.service = .cool then k.reference1 else r1
            reference2 := if k.service = .heat then k.reference2 else r2
            frameSeen := true, errorStreak := 0, state := .live } })

/-- A FRAME of a LIVE or LATE slot: the first test that fails rejects it, with no energy and the slot SUSPECT; a frame that
passes sets the references, and its deltas are discarded, accumulated for a pool, held, or set against the account's
estimate balances with the rest accumulated. The order of the raises and ends of one operation is inferred (log entry
13). -/
def Obligations.DrainReadings : Prop :=
  ∀ (s : State) (m : SlotNo) (a : Byte) (rest : List CaptureEntry) (r1 r2 : Word) (st : Byte),
    let k := s.meter m
    let n := s.clock.interval
    let u := { s.afterDrain with capture := rest }
    let raw1 := if k.service = .cool then 0 else (r1 - k.reference1).toNat
    let raw2 := if k.service = .heat then 0 else (r2 - k.reference2).toNat
    let spikes := fun raw : Nat => (k.spikeLimit ≠ 0 ∧ k.spikeLimit < raw * k.scale.factor) ∨
      268435455 < raw * k.scale.factor
    let failure : Option FaultClass :=
      if st.getLsbD 0 then some .meterAlarm
      else if 2147483648 ≤ raw1 then some .meterRollback
      else if spikes raw1 then some .meterSpike
      else if 2147483648 ≤ raw2 then some .meterRollback
      else if spikes raw2 then some .meterSpike
      else none
    let ended := fun f : Faults => if k.state = .late then f.endCondition .meterLate (.meter m) else f
    let heard := { k with
      reference1 := if k.service = .cool then k.reference1 else r1
      reference2 := if k.service = .heat then k.reference2 else r2
      frameSeen := true, errorStreak := 0, state := .live }
    let e1 := raw1 * k.scale.factor
    let e2 := raw2 * k.scale.factor
    let add := fun x y : Nat => min 268435455 (x + y)
    s.nextGrant = some .drain → s.anyHeldDue = false → s.capture = .frame m a r1 r2 st :: rest →
    k.state = .live ∨ k.state = .late → k.address = a.toNat →
    (∀ c, failure = some c → exec .drainCaptureEntry s = .next { u with
      meters := s.meters.set m { k with state := .suspect }
      faults := (ended (u.faults.raise c (.meter m) n)).raise .meterSuspect (.meter m) n }) ∧
    (failure = none → k.target = .unassigned → exec .drainCaptureEntry s = .next { u with
      meters := s.meters.set m heard, faults := ended u.faults }) ∧
    (∀ q, failure = none → k.target = .pool q → exec .drainCaptureEntry s = .next { u with
      meters := s.meters.set m { heard with
        accumulation := ⟨add k.accumulation.heating e1, add k.accumulation.cooling e2⟩, owner := .pool q }
      faults := ended u.faults }) ∧
    (∀ b, failure = none → k.target = .account b →
      let w := (s.account b).work
      let waits := ∃ x, s.bank = some x ∧ (x.slots.get m).state = .late ∧ (s.account b).settledThrough ≠ x.interval
      (waits → exec .drainCaptureEntry s = .next { u with
        meters := s.meters.set m { heard with
          held := some
            { energy := match k.held with
                | some h => ⟨add h.energy.heating e1, add h.energy.cooling e2⟩
                | none => ⟨add 0 e1, add 0 e2⟩
              account := b } }
        faults := ended u.faults }) ∧
      (¬ waits → exec .drainCaptureEntry s = .next { u with
        accounts := s.accounts.set b { s.account b with
          work := ⟨{ w.heating with balance := w.heating.balance - min e1 w.heating.balance },
            { w.cooling with balance := w.cooling.balance - min e2 w.cooling.balance }⟩ }
        meters := s.meters.set m { heard with
          accumulation := ⟨add k.accumulation.heating (e1 - min e1 w.heating.balance),
            add k.accumulation.cooling (e2 - min e2 w.cooling.balance)⟩
          owner := .account b }
        faults := ended u.faults }))

/-- Held deltas whose hold has ended are set against the balances of the account they are held for, the rest accumulated
under it, and the held field removed. -/
def Obligations.ApplyHeldDeltas : Prop :=
  ∀ (s : State) (m : SlotNo) (h : Held),
    let k := s.meter m
    let w := (s.account h.account).work
    let add := fun x y : Nat => min 268435455 (x + y)
    s.nextGrant = some .drain → k.held = some h → s.holdActive m h.account = false →
    exec (.applyHeldDeltas m.val) s = .next { s.afterDrain with
      accounts := s.accounts.set h.account { s.account h.account with
        work := ⟨{ w.heating with balance := w.heating.balance - min h.energy.heating w.heating.balance },
          { w.cooling with balance := w.cooling.balance - min h.energy.cooling w.cooling.balance }⟩ }
      meters := s.meters.set m { k with
        accumulation :=
          ⟨add k.accumulation.heating (h.energy.heating - min h.energy.heating w.heating.balance),
            add k.accumulation.cooling (h.energy.cooling - min h.energy.cooling w.cooling.balance)⟩
        owner := .account h.account, held := none } }

/-! ## The Interval Clock -/

/-- A TICK edge ends an active TICK-LOSS condition in every store state; counted, it advances the elapsed count unless a
deferral holds it, and adds one second, up to 3,600, to each enabled line that is active; and where the count then stands
at the limit, the same step takes what the timer's expiry brings. Three seconds without an edge make the condition active,
flag the interval and raise TICK-LOSS; that a condition active already stays as it is, is inferred (log entry 14). A
deferred boundary that is due is taken before either event (log entry 5). With the interfaces stopped no clock event has
an effect. -/
def Obligations.TickEdge : Prop :=
  ∀ (s : State) (levels : Half),
    (s.interfacesRun = true → s.deferredDue = false →
      let f := if s.clock.tickLoss then s.faults.endCondition .tickLoss .clock else s.faults
      (s.clock.store = .blank → exec (.tickEdge levels) s = .next { s with
        clock := { s.clock with tickLoss := false }, faults := f, linePins := some levels }) ∧
      (s.clock.store ≠ .blank → ∃ u, s.ticked levels u ∧
        (¬ u.clock.atLimit → exec (.tickEdge levels) s = .next u) ∧
        (u.clock.atLimit → ∃ t, exec (.tickEdge levels) s = .next t ∧ u.expiredTo t)) ∧
      (s.clock.tickLoss = false → exec .tickLossTimeout s = .next { s with
        clock := { s.clock with tickLoss := true, flags := { s.clock.flags with tickLoss := true } }
        faults := s.faults.raise .tickLoss .clock s.clock.interval }) ∧
      (s.clock.tickLoss = true → exec .tickLossTimeout s = .next s)) ∧
    (s.interfacesRun = true → s.deferredDue = true → ∃ t, exec .deferredBoundary s = .next t ∧
      exec (.tickEdge levels) s = exec (.tickEdge levels) t ∧ exec .tickLossTimeout s = exec .tickLossTimeout t) ∧
    (s.interfacesRun = false → exec (.tickEdge levels) s = .next s ∧ exec .tickLossTimeout s = .next s ∧
      exec .timerExpiry s = .next s ∧ exec .deferredBoundary s = .next s)

/-- TIMER_EXPIRY is the counted TICK that brings the elapsed count to the limit, with free line levels (log entry 5): the
alignment boundary in ALIGNING, a boundary in RUNNING with no settle in flight, and a deferral with one in flight, the
elapsed count staying at the limit; at any other count there is no such event. A deferred boundary is taken when the
settle has reached IDLE, and the new interval starts without the flag; that DEFERRED_BOUNDARY changes nothing where none
is due is the model's choice (log entry 2). The METER-LATE raises in slot order are inferred (log entry 13). -/
def Obligations.TimerExpiry : Prop :=
  ∀ s : State, s.interfacesRun = true →
    (s.clock.store ≠ .blank → s.clock.deferred = false → s.clock.length * 60 ≤ s.clock.elapsed + 1 →
      ∃ u t, { s with freeSeq := s.freeSeq + 1 }.ticked (Config.freeLevels s.freeSeq) u ∧
        exec .timerExpiry s = .next t ∧ u.expiredTo t) ∧
    (s.clock.store = .blank ∨ s.clock.deferred = true ∨ s.clock.elapsed + 1 < s.clock.length * 60 →
      exec .timerExpiry s = .next s) ∧
    (s.clock.store = .running → s.clock.deferred = true → s.settle = .idle → ∃ t, exec .deferredBoundary s = .next t ∧
      s.tookBoundary t ∧ t.ports = s.ports ∧ t.arbiter = s.arbiter) ∧
    (s.deferredDue = false → exec .deferredBoundary s = .next s)

/-! ## Settlement -/

/-- A COMPUTE read takes one account's carries, histories and streaks; the last leads to POST at account 1, with every
result worked out. That accounts are read in ascending order is the model's choice (log entry 11). -/
def Obligations.ComputeRead : Prop :=
  ∀ (s : State) (b : Bank) (rs : List (PerService Reading)) (a : AccountNo),
    s.settle = .compute b rs → a.val = rs.length → s.nextGrant = some .settle →
    let w := (s.account a).work
    let rs' := rs ++ [⟨⟨w.heating.carry, w.heating.history, w.heating.streak⟩,
      ⟨w.cooling.carry, w.cooling.history, w.cooling.streak⟩⟩]
    exec .computeRead s = .next ({ s with
      settle := if a.val < 47 then .compute b rs' else .post b (b.results rs') 1 } : State).endsSettleStep

/-- What COMPUTE works out from the bank and the readings. Of one account service: how it is charged, its estimate and the
carry and NO-BASIS with it, the addition to the balance, the history entry, the no-advance streak and its trip, and the
cost at the banked price; for each service the fault of the balance check. Of the apportionment: the direct energy of each
account service and the account it is credited to, the pool shares by weight and the loss shares by direct energy, each a
floor whose remainder goes to account 0 (a quotient by 0 is 0, so that an empty denominator leaves the whole to the
remainder), the interval figures, and which accounts an estimate is credited to. -/
def Obligations.ServiceResults : Prop :=
  (∀ (b : Bank) (rs : List (PerService Reading)) (sv : Service) (a : AccountNo),
      let x := ((b.results rs).accounts.get a).get sv
      let k := b.accounts.get a
      let r := (rs.getD a.val ⟨⟨0, [], 0⟩, ⟨0, [], 0⟩⟩).get sv
      let own := k.meterPos.get sv
      let ownState := own.map fun m => (b.slots.get m).state
      let energy := match own with | some m => (b.slots.get m).accumulation.get sv | none => 0
      let seconds := (k.settings.line.get sv).bind fun l => b.lines.get l
      let power := k.settings.power.get sv
      let stands := fun y => (b.accounts.get y).recorded = .occupied ∨ (b.accounts.get y).recorded = .closing
      let partOf := stands a ∨
        (k.recorded = .joined ∧ ∃ l : AccountNo, l.val % 2 = 1 ∧ a.val = l.val + 1 ∧ stands l)
      let live := k.settings.basis.get sv = .metered ∧ ownState = some .live
      let checked := b.noAdvance.openMin ≠ 0 ∧ ∃ c, seconds = some c ∧ b.noAdvance.openMin ≤ c
      let raised := min 15 (r.streak + 1)
      let f := (b.results rs).figures.get sv
      ((¬ partOf → x.kind = .redirected) ∧ (partOf → live → x.kind = .metered) ∧
        (partOf → ¬ live → x.kind = .estimated)) ∧
      (x.kind ≠ .estimated →
        x.estimate = none ∧ x.newCarry = r.carry ∧ x.noBasis = false ∧ x.balanceAdd = 0) ∧
      (x.kind = .estimated →
        (∀ c, seconds = some c → power ≠ 0 →
          x.estimate = some ⟨.runtime, (c * power + r.carry) / 3600⟩ ∧
          x.newCarry = (c * power + r.carry) % 3600 ∧ x.noBasis = false) ∧
        (seconds = none ∨ power = 0 →
          x.estimate = some ⟨.fallback, r.history.sum / r.history.length⟩ ∧ x.newCarry = r.carry ∧
          (x.noBasis = true ↔ r.history = [])) ∧
        ∀ e, x.estimate = some e → x.balanceAdd = if ownState = some .late then e.energy else 0) ∧
      (x.kind ≠ .metered → x.entry = none ∧ x.newStreak = r.streak ∧ x.trip = none) ∧
      (x.kind = .metered → x.entry = some energy ∧
        (¬ checked → x.newStreak = r.streak ∧ x.trip = none) ∧
        (checked → b.noAdvance.advanceMin ≤ energy → x.newStreak = 0 ∧ x.trip = none) ∧
        (checked → energy < b.noAdvance.advanceMin → raised < b.noAdvance.window →
          x.newStreak = raised ∧ x.trip = none) ∧
        (checked → energy < b.noAdvance.advanceMin → b.noAdvance.window ≤ raised →
          x.newStreak = 0 ∧ x.trip = own)) ∧
      x.cost = (x.metered + x.estimated + x.common + x.loss) * (b.prices.get sv).get b.band ∧
      f.excess = f.meteredD + f.estimatedD + (f.retail + f.office) - f.plant ∧
      f.fault = if f.excess = 0 then none
        else if f.posted then (if b.tolerance * f.plant < f.excess * 1000 then some .excess else none)
        else some .plantLate) ∧
  ∀ (b : Bank) (rs : List (PerService Reading)) (sv : Service),
    let x := fun a => ((b.results rs).accounts.get a).get sv
    let f := (b.results rs).figures.get sv
    let recorded := fun a => (b.accounts.get a).recorded
    let settings := fun a => (b.accounts.get a).settings
    let stands := fun a => recorded a = .occupied ∨ recorded a = .closing
    let pairOf := fun upper lower : AccountNo => lower.val % 2 = 1 ∧ upper.val = lower.val + 1
    let own := fun a => (b.accounts.get a).meterPos.get sv
    let owner := fun m => (b.slots.get m).owner
    let gathered := fun m => (b.slots.get m).accumulation.get sv
    let metered := fun a => sumOver 64 fun m =>
      if (own a = some m ∧ (x a).kind ≠ .estimated) ∨ (own a ≠ some m ∧ owner m = .account a) then gathered m else 0
    let estimated := fun a => ((x a).estimate.map OwnEstimate.energy).getD 0
    let common := fun p => sumOver 64 fun m => if owner m = .pool p then gathered m else 0
    let weight := fun p a => if recorded a = .joined then 0
      else if p = Pool.retail then (settings a).retailWeight else (settings a).officeWeight
    let poolShare := fun p a => common p * weight p a / sumOver 48 (weight p)
    let poolRest := fun p => common p - sumOver 48 (poolShare p)
    let part := fun a => if stands a ∧ (settings a).lossShare = true then (x a).metered + (x a).estimated else 0
    let lossShare := fun a => f.loss * part a / sumOver 48 part
    let lossRest := f.loss - sumOver 48 lossShare
    (∀ a, stands a → b.creditTo a = a ∧ b.shareTo a = a) ∧
    (∀ a, ¬ stands a → b.shareTo a = 0) ∧
    (∀ a l, recorded a = .joined → pairOf a l → stands l → b.creditTo a = l) ∧
    (∀ a, ¬ stands a → (∀ l, recorded a = .joined → pairOf a l → ¬ stands l) → b.creditTo a = 0) ∧
    (∀ a, (x a).metered = sumOver 48 fun y => if b.creditTo y = a then metered y else 0) ∧
    (∀ a, (x a).estimated = sumOver 48 fun y => if b.creditTo y = a then estimated y else 0) ∧
    (∀ a, (x a).common = (sumOver 48 fun y => if b.shareTo y = a then poolShare .retail y + poolShare .office y else 0) +
      if a = 0 then poolRest .retail + poolRest .office else 0) ∧
    (∀ a, (x a).loss = lossShare a + if a = 0 then lossRest else 0) ∧
    (∀ p, b.poolEnergy sv p = common p ∧ b.poolRemainder sv p = poolRest p ∧ ∀ a, b.poolShare sv p a = poolShare p a) ∧
    (∀ a, b.lossPart rs sv a = part a ∧ b.lossShare rs sv a = lossShare a) ∧ b.lossRemainder rs sv = lossRest ∧
    b.plantP sv = f.plant ∧
    f.price = (b.prices.get sv).get b.band ∧ f.posted = (b.plant.get sv).posted ∧
    f.plant = (if (b.plant.get sv).posted = true then (b.plant.get sv).delta else 0) ∧
    f.meteredD = sumOver 48 metered ∧ f.estimatedD = sumOver 48 estimated ∧
    f.retail = common .retail ∧ f.office = common .office ∧
    f.loss = f.plant - (f.meteredD + f.estimatedD + (f.retail + f.office)) ∧
    f.remainder = poolRest .retail + poolRest .office + lossRest ∧
    ∀ a, (b.results rs).estimateCredited.get a = true ↔
      ∃ y tv, b.creditTo y = a ∧ (((b.results rs).accounts.get y).get tv).kind = .estimated

/-- Conservation law: for each service the direct energy credited totals D, the pool shares and remainders total C, the
loss shares and remainder total L, and the allocations across the 48 accounts the greater of the plant delta P and D + C;
each pool's shares and remainder total that pool's energy. -/
def Obligations.ConservationLaw : Prop :=
  ∀ (b : Bank) (rs : List (PerService Reading)) (sv : Service),
    let x := fun a => ((b.results rs).accounts.get a).get sv
    let f := (b.results rs).figures.get sv
    let d := f.meteredD + f.estimatedD
    let c := f.retail + f.office
    sumOver 48 (fun a => (x a).metered + (x a).estimated) = d ∧
    sumOver 48 (fun a => (x a).common) = c ∧
    sumOver 48 (fun a => (x a).loss) = f.loss ∧
    f.loss = b.plantP sv - (d + c) ∧
    sumOver 48 (fun a => (x a).allocation) = max (b.plantP sv) (d + c) ∧
    (∀ p, sumOver 48 (b.poolShare sv p) + b.poolRemainder sv p = b.poolEnergy sv p) ∧
    sumOver 48 (b.lossShare rs sv) + b.lossRemainder rs sv = f.loss

/-- Tenancy law: a tenant account recorded VACANT, OPENING, FINAL or JOINED is credited no direct energy, keeps no pool
share, is not in the loss base, and has no allocation and no cost; its own meters' energy and its pool shares go to account
0, or, JOINED, to the lower account of its pair where that one is recorded OCCUPIED or CLOSING. -/
def Obligations.TenancyLaw : Prop :=
  ∀ (b : Bank) (rs : List (PerService Reading)) (sv : Service) (a : AccountNo), a ≠ 0 →
    (b.accounts.get a).recorded ≠ .occupied → (b.accounts.get a).recorded ≠ .closing →
    let x := ((b.results rs).accounts.get a).get sv
    x.metered = 0 ∧ x.estimated = 0 ∧ x.common = 0 ∧ x.loss = 0 ∧ x.allocation = 0 ∧ x.cost = 0 ∧
    b.lossPart rs sv a = 0 ∧
    ((b.accounts.get a).recorded ≠ .joined → b.creditTo a = 0 ∧ b.shareTo a = 0) ∧
    ((b.accounts.get a).recorded = .joined → b.poolShare sv .retail a = 0 ∧ b.poolShare sv .office a = 0 ∧
      ∀ l : AccountNo, l.val % 2 = 1 → a.val = l.val + 1 →
        ((b.accounts.get l).recorded = .occupied ∨ (b.accounts.get l).recorded = .closing → b.creditTo a = l) ∧
        ((b.accounts.get l).recorded ≠ .occupied → (b.accounts.get l).recorded ≠ .closing → b.creditTo a = 0))

/-- One post writes one account whole: the totals, counts and flags of an account recorded OCCUPIED or CLOSING, the working
state of its metered or estimated services, settled-through, and the cursor; the slot of a trip is made SUSPECT where it is
LIVE and still the account service's, and the post's faults are raised with the bank's interval, in the order that R157
leaves to inference (log entry 13). No other account and nothing else changes, and the tenancy, settings and meter
positions stay. -/
def Obligations.AccountPost : Prop :=
  ∀ (s : State) (b : Bank) (r : Results) (a : AccountNo), s.settle = .post b r a → s.nextGrant = some .settle →
    let x := r.accounts.get a
    let old := s.account a
    let n := b.interval
    ∃ t : State, exec .accountPost s = .next t.endsSettleStep ∧
      t = { s with accounts := t.accounts, meters := t.meters, faults := t.faults, settle := t.settle } ∧
      t.settle = (if a = 0 then .closeout b r 0 false else .post b r (a + 1)) ∧
      (∀ y, y ≠ a → t.account y = s.account y) ∧
      t.account a = { old with
        totals := (t.account a).totals, work := (t.account a).work, settledThrough := n } ∧
      (∀ sv, (x.get sv).kind = .redirected → (t.account a).work.get sv = old.work.get sv) ∧
      (∀ sv, (x.get sv).kind ≠ .redirected → (t.account a).work.get sv =
        { carry := (x.get sv).newCarry
          balance := added 4294967295 (old.work.get sv).balance (x.get sv).balanceAdd
          history := ((x.get sv).entry.toList ++ (old.work.get sv).history).take 4
          streak := (x.get sv).newStreak }) ∧
      (b.standing a = false → (t.account a).totals = old.totals) ∧
      (b.standing a = true →
        (t.account a).totals.active = true ∧
        ((t.account a).totals.saturated = true ↔ old.totals.saturated = true ∨ old.totals.overflows b.band x) ∧
        (t.account a).totals.occupied = added 4294967295 old.totals.occupied 1 ∧
        (t.account a).totals.estimated = (if r.estimateCredited.get a
          then added 4294967295 old.totals.estimated 1 else old.totals.estimated) ∧
        (t.account a).totals.interrupted = (if b.flags.interrupted
          then added 4294967295 old.totals.interrupted 1 else old.totals.interrupted) ∧
        ∀ sv, (t.account a).totals.energy.get sv = EnergyTotals.after (old.totals.energy.get sv) (x.get sv) ∧
          (t.account a).totals.cost.get sv = (old.totals.cost.get sv).set b.band
            (added 281474976710655 ((old.totals.cost.get sv).get b.band) (x.get sv).cost)) ∧
      (∀ m, t.meter m = if s.trips x a .heating m || s.trips x a .cooling m
        then { s.meter m with state := .suspect } else s.meter m) ∧
      ∃ f0 : Faults,
        (b.standing a = true ∧ old.totals.overflows b.band x → f0 = s.faults.raise .accumSaturated (.account a) n) ∧
        (¬ (b.standing a = true ∧ old.totals.overflows b.band x) → f0 = s.faults) ∧
        (let f1 := if x.heating.noBasis then f0.raise .noBasis (.account a) n else f0
         let f2 := if x.cooling.noBasis then f1.raise .noBasis (.account a) n else f1
         let f3 := f2.tripped x.heating.trip (s.trips x a .heating) n
         let f4 := f3.tripped x.cooling.trip (fun m => s.trips x a .cooling m && !s.trips x a .heating m) n
         t.faults = if a = 0 then (f4.balanced .heating r.figures.heating.fault n).balanced .cooling
             r.figures.cooling.fault n
           else f4)

/-- A CLOSEOUT visit issues a FINAL statement for an account recorded CLOSING, a PERIOD statement under PERIOD-END for an
active account recorded OCCUPIED, each with its totals reset, and otherwise advances its progress alone. After the visits
the period step advances the period under PERIOD-END, 65,535 being followed by 1, and then the summary is written at age
0, the settle is IDLE and both ports' SETTLED flags are set. -/
def Obligations.Closeout : Prop :=
  (∀ (s : State) (b : Bank) (r : Results) (a : AccountNo) (done : Bool), s.settle = .closeout b r a.val done →
      s.nextGrant = some .settle →
      let x := s.account a
      let u := { s with settle := .closeout b r (a.val + 1) done }
      let statement := fun kind : StatementKind =>
        ({ account := a, kind := kind, saturated := x.totals.saturated
           containsEstimate := decide (0 < x.totals.estimated)
           tag := x.tag.getD 0#32, period := s.period, firstInterval := x.firstInterval, lastInterval := b.interval
           occupied := x.totals.occupied, estimated := x.totals.estimated, interrupted := x.totals.interrupted
           energy := x.totals.energy, cost := x.totals.cost } : Statement)
      ((b.accounts.get a).recorded = .closing → exec .closeoutVisit s = .next ({ u with
        accounts := s.accounts.set a { x with totals := Totals.zero }
        queue := s.queue ++ [statement .final] } : State).endsSettleStep) ∧
      ((b.accounts.get a).recorded = .occupied → b.periodEnd = true → x.totals.active = true →
        exec .closeoutVisit s = .next ({ u with
          accounts := s.accounts.set a { x with
            totals := Totals.zero
            firstInterval := if x.tenancy = .occupied ∨ x.tenancy = .closing
              then (if b.interval = 4294967295 then 1 else b.interval + 1) else x.firstInterval }
          queue := s.queue ++ [statement .period] } : State).endsSettleStep) ∧
      ((b.accounts.get a).recorded ≠ .closing →
        ((b.accounts.get a).recorded ≠ .occupied ∨ b.periodEnd = false ∨ x.totals.active = false) →
        exec .closeoutVisit s = .next (State.endsSettleStep u))) ∧
  ∀ (s : State) (b : Bank) (r : Results), s.nextGrant = some .settle →
    (s.settle = .closeout b r 48 false → exec .periodStep s = .next ({ s with
      period := if b.periodEnd = true then (if s.period = 65535 then 1 else s.period + 1) else s.period
      settle := .closeout b r 48 true } : State).endsSettleStep) ∧
    (s.settle = .closeout b r 48 true → exec .summaryWrite s = .next ({ s with
      ring := (({ interval := b.interval, band := b.band, flags := b.flags, periodEnd := b.periodEnd
                  figures := r.figures } : Summary) :: s.ring).take 16
      settle := .idle
      ports := ⟨{ s.ports.plant with settled := true }, { s.ports.billing with settled := true }⟩ } :
        State).endsSettleStep)

/-! ## Supply and reset -/

/-- VMAIN below the hold threshold in RUN: HOLD, or OFF with BACKUP-LOW set, with the interfaces stopped unless RESETn had
stopped them; in HOLD or OFF it breaks the recovery test. The test starts at a rise above the run threshold outside RUN
and is broken below it; BACKUP-LOW follows VBAK, and set in HOLD it turns the supply OFF, the test of OFF running where
VMAIN stands above the run threshold, as is inferred (log entry 20). That a deferred boundary which is due stays pending
at VMAIN's fall is inferred (log entry 5). That a port turn ends with the interfaces' stop, and that the store's fields stay
as they were in OFF, are the model's choices (log entries 22 and 17). -/
def Obligations.SupplyLevels : Prop :=
  ∀ s : State,
    let off := { s.supervisor with
      supply := if s.supervisor.backupLow then .off else .hold, main := .belowHold, recovery := false }
    (s.supervisor.supply = .run → s.supervisor.resetHigh = true →
      exec .vmainFall s = .next { State.stopped s with supervisor := off }) ∧
    (s.supervisor.supply = .run → s.supervisor.resetHigh = false →
      exec .vmainFall s = .next { s with supervisor := off }) ∧
    (s.supervisor.supply ≠ .run → exec .vmainFall s = .next { s with
      supervisor := { s.supervisor with main := .belowHold, recovery := false } }) ∧
    exec .vmainRise s = .next { s with
      supervisor := { s.supervisor with main := .aboveRun, recovery := decide (s.supervisor.supply ≠ .run) } } ∧
    exec .vmainFallBelowRunThreshold s = .next { s with
      supervisor := { s.supervisor with main := .between, recovery := false } } ∧
    (∀ low, s.supervisor.supply ≠ .hold ∨ low = false → exec (.backupLowChange low) s = .next { s with
      supervisor := { s.supervisor with backupLow := low } }) ∧
    (s.supervisor.supply = .hold → exec (.backupLowChange true) s = .next { s with
      supervisor := { s.supervisor with
        backupLow := true, supply := .off, recovery := decide (s.supervisor.main = .aboveRun) } })

/-- The recovery test expires in HOLD: RUN, and the interfaces restart at once, or wait for RESETn with one more
SUPPLY-HOLD to raise; that each exit is raised is read from R188 (log entry 16). -/
def Obligations.HoldExit : Prop :=
  ∀ s : State, s.supervisor.supply = .hold → s.supervisor.recovery = true →
    let v := { s.supervisor with supply := .run, recovery := false, holdExits := s.supervisor.holdExits + 1 }
    (s.supervisor.resetHigh = true → ∃ t, exec .holdExit s = .next t ∧ State.restarted { s with supervisor := v } t) ∧
    (s.supervisor.resetHigh = false → exec .holdExit s = .next { s with supervisor := v })

/-- RESETn low stops the interfaces in RUN, and in any supply state is remembered until the next restart; its release
restarts them in RUN, with one SUPPLY-HOLD raise for each exit from HOLD that waits, as is inferred (log entry 16). That a
deferred boundary which is due stays pending at RESETn's fall is inferred too (log entry 5), and that a port turn ends there
is the model's choice (log entry 22). -/
def Obligations.WarmReset : Prop :=
  ∀ s : State,
    (s.supervisor.resetHigh = true →
      let v := { s.supervisor with resetHigh := false, resetSeen := true }
      (s.supervisor.supply = .run →
        exec .warmResetAssert s = .next { State.stopped s with supervisor := v }) ∧
      (s.supervisor.supply ≠ .run → exec .warmResetAssert s = .next { s with supervisor := v })) ∧
    (s.supervisor.resetHigh = false →
      let v := { s.supervisor with resetHigh := true }
      (s.supervisor.supply = .run →
        ∃ t, exec .warmResetRelease s = .next t ∧ State.restarted { s with supervisor := v } t) ∧
      (s.supervisor.supply ≠ .run → exec .warmResetRelease s = .next { s with supervisor := v }))

/-- A power-on reset leaves no trace of the old store: every field but the pins' levels, the queue of commands and the
model's free-value counter is at its value after reset. The values after reset of the latched status byte, the data-out
bytes, the port turn, the recovery test and the supervisor's records are the model's choice (log entry 9), as are the
queue and the counter (log entries 7 and 8). -/
def Obligations.PowerOnReset : Prop :=
  ∀ s : State, s.supervisor.supply = .off → s.supervisor.recovery = true →
    ∃ t, exec .powerOnReset s = .next t ∧
      t = { State.reset with
        ports := t.ports, supervisor := t.supervisor, freeSeq := s.freeSeq, pending := s.pending } ∧
      t.supervisor = { s.supervisor with
        supply := .run, recovery := false, holdExits := 0, resetSeen := !s.supervisor.resetHigh } ∧
      ∀ p, t.port p = { State.reset.port p with
        selected := (s.port p).selected
        transaction := if (s.port p).selected && s.supervisor.resetHigh then .lockedOut else .idle }

/-! ## Laws that every step keeps -/

/-- Fault uniqueness law with the entries proper: kept by every step. -/
def Obligations.FaultUniquenessKept : Prop :=
  ∀ s t : State, s.faults.unique ∧ s.faults.proper → step s = .next t → t.faults.unique ∧ t.faults.proper

/-- Single-settle law: kept by every step. -/
def Obligations.SingleSettleKept : Prop :=
  ∀ s t : State, s.singleSettle → step s = .next t → t.singleSettle

/-- Settled-through law, the last settled interval being that of the newest summary and 0 with none: kept by every
step. -/
def Obligations.SettledThroughKept : Prop :=
  ∀ s t : State, s.settledThroughLaw → step s = .next t → t.settledThroughLaw

/-- Meter uniqueness law: kept by every step. -/
def Obligations.MeterUniquenessKept : Prop :=
  ∀ s t : State, s.meterUniqueness → step s = .next t → t.meterUniqueness

/-- Line mapping law: kept by every step. -/
def Obligations.LineMappingKept : Prop :=
  ∀ s t : State, s.lineMappingLaw → step s = .next t → t.lineMappingLaw

/-- Statement-bound law, with the tenancy states proper: kept by every step. -/
def Obligations.StatementBoundKept : Prop :=
  ∀ s t : State, s.tenanciesProper ∧ s.statementBound → step s = .next t → t.tenanciesProper ∧ t.statementBound

/-- The Interval Clock's ranges (R23) with an elapsed count that stands at the limit in a deferral alone, the two capture
buffers, the open-second counts, the stopped interfaces and the PENDING replies of slots in use: kept by every step. -/
def Obligations.RangesKept : Prop :=
  ∀ s t : State, s.clock.inRange ∧ s.countsBounded ∧ s.quiet ∧ s.repliesPend → step s = .next t →
    t.clock.inRange ∧ t.countsBounded ∧ t.quiet ∧ t.repliesPend

/-- The ranges of the account records (R1 to R4), the meter and plant slots (R44, R58), the no-advance settings (R75), what
a settle holds, the period number (R119), the sixteen summaries (R136) and the Fault Table (R155): kept by every step,
with the Interval Clock's. -/
def Obligations.RecordRangesKept : Prop :=
  ∀ s t : State, s.clock.inRange ∧ s.recordsInRange → step s = .next t → t.clock.inRange ∧ t.recordsInRange

/-- The state after reset meets every law above. Its Fault Table holds the STORE-LOST entry alone, at position 0 with sequence
number 0 and both notices set, and the counter and the cursor stand at 1. -/
def Obligations.ResetMeetsTheLaws : Prop :=
  State.reset.faults.unique ∧ State.reset.faults.proper ∧ State.reset.singleSettle ∧ State.reset.settledThroughLaw ∧
  State.reset.meterUniqueness ∧ State.reset.lineMappingLaw ∧ State.reset.tenanciesProper ∧ State.reset.statementBound ∧
  State.reset.clock.inRange ∧ State.reset.countsBounded ∧ State.reset.quiet ∧
  State.reset.repliesPend ∧ State.reset.recordsInRange ∧
  let f := State.reset.faults
  f.entries.get 0 = some { seq := 0, cls := .storeLost, subject := .store, first := 0, last := 0, occurrences := 1
                           active := false, notice := ⟨true, true⟩ } ∧
  (∀ i, i ≠ 0 → f.entries.get i = none) ∧ f.counter = 1 ∧ f.cursor = 1 ∧
  f.overflow = ⟨false, false⟩ ∧ f.mask = ⟨0#32, 0#32⟩

/-- First-notice law: a port's pointer names an entry with that port's notice set that lies furthest behind the sequence
counter of all that have it, a number equal to the counter lying the full 65,536 places behind it, and is empty when none
has; the notice count is the number of entries with that notice set. -/
def Obligations.FirstNoticeLaw : Prop :=
  ∀ (f : Faults) (p : Port),
    let places := fun seq : Nat => (f.counter + 65536 - seq) % 65536
    let behind := fun seq => if places seq = 0 then 65536 else places seq
    (∀ i, f.noticeAt p i = true ↔ ∃ e, f.entries.get i = some e ∧ e.notice.get p = true) ∧
    f.noticeCount p = sumOver 32 (fun i => if f.noticeAt p i = true then 1 else 0) ∧
    (∀ i, f.firstNotice p = some i → f.noticeAt p i = true ∧
      ∀ j e d, f.noticeAt p j = true → f.entries.get i = some e → f.entries.get j = some d →
        behind d.seq ≤ behind e.seq) ∧
    (f.firstNotice p = none ↔ ∀ i, f.noticeAt p i = false)

/-- Request frames: reading back the frame of any request gives the request, and the byte sequences that spell a request
are exactly the good frames. -/
def Obligations.RequestFramesRoundTrip : Prop :=
  (∀ (c : Instr) (p : Port), c.port = some p → c.requestBytes ≠ [] →
    ∃ levels, decodeFrame p levels c.requestBytes = some c) ∧
  (∀ (p : Port) (levels : Half) (bytes : List Byte), (decodeFrame p levels bytes).isSome = goodFrame bytes) ∧
  ∀ (p : Port) (levels : Half) (bytes : List Byte) (c : Instr),
    decodeFrame p levels bytes = some c → c.requestBytes = bytes ∧ c.port = some p
end

