-- ==== Sys2Proof/Laws/State.lean ====
section
/-!
SUPPORT. One lemma for each field under each update of one part of the state, true by unfolding the update, so that a
proof about a field never unfolds a record update.
-/

namespace Sys2Proof.Machine

variable (s : State)

@[simp] theorem State.setAccount_accounts (a : AccountNo) (r : Account) : (s.setAccount a r).accounts = s.accounts.set a r := rfl
@[simp] theorem State.setAccount_joinedNote (a : AccountNo) (r : Account) : (s.setAccount a r).joinedNote = s.joinedNote := rfl
@[simp] theorem State.setAccount_meters (a : AccountNo) (r : Account) : (s.setAccount a r).meters = s.meters := rfl
@[simp] theorem State.setAccount_pools (a : AccountNo) (r : Account) : (s.setAccount a r).pools = s.pools := rfl
@[simp] theorem State.setAccount_plant (a : AccountNo) (r : Account) : (s.setAccount a r).plant = s.plant := rfl
@[simp] theorem State.setAccount_lines (a : AccountNo) (r : Account) : (s.setAccount a r).lines = s.lines := rfl
@[simp] theorem State.setAccount_noAdvance (a : AccountNo) (r : Account) : (s.setAccount a r).noAdvance = s.noAdvance := rfl
@[simp] theorem State.setAccount_lineRate (a : AccountNo) (r : Account) : (s.setAccount a r).lineRate = s.lineRate := rfl
@[simp] theorem State.setAccount_clock (a : AccountNo) (r : Account) : (s.setAccount a r).clock = s.clock := rfl
@[simp] theorem State.setAccount_settle (a : AccountNo) (r : Account) : (s.setAccount a r).settle = s.settle := rfl
@[simp] theorem State.setAccount_period (a : AccountNo) (r : Account) : (s.setAccount a r).period = s.period := rfl
@[simp] theorem State.setAccount_stagedClose (a : AccountNo) (r : Account) : (s.setAccount a r).stagedClose = s.stagedClose := rfl
@[simp] theorem State.setAccount_queue (a : AccountNo) (r : Account) : (s.setAccount a r).queue = s.queue := rfl
@[simp] theorem State.setAccount_ring (a : AccountNo) (r : Account) : (s.setAccount a r).ring = s.ring := rfl
@[simp] theorem State.setAccount_faults (a : AccountNo) (r : Account) : (s.setAccount a r).faults = s.faults := rfl
@[simp] theorem State.setAccount_ports (a : AccountNo) (r : Account) : (s.setAccount a r).ports = s.ports := rfl
@[simp] theorem State.setAccount_receiver (a : AccountNo) (r : Account) : (s.setAccount a r).receiver = s.receiver := rfl
@[simp] theorem State.setAccount_capture (a : AccountNo) (r : Account) : (s.setAccount a r).capture = s.capture := rfl
@[simp] theorem State.setAccount_overruns (a : AccountNo) (r : Account) : (s.setAccount a r).overruns = s.overruns := rfl
@[simp] theorem State.setAccount_arbiter (a : AccountNo) (r : Account) : (s.setAccount a r).arbiter = s.arbiter := rfl
@[simp] theorem State.setAccount_supervisor (a : AccountNo) (r : Account) : (s.setAccount a r).supervisor = s.supervisor := rfl
@[simp] theorem State.setAccount_linePins (a : AccountNo) (r : Account) : (s.setAccount a r).linePins = s.linePins := rfl
@[simp] theorem State.setAccount_freeSeq (a : AccountNo) (r : Account) : (s.setAccount a r).freeSeq = s.freeSeq := rfl
@[simp] theorem State.setAccount_pending (a : AccountNo) (r : Account) : (s.setAccount a r).pending = s.pending := rfl

@[simp] theorem State.setMeter_accounts (m : SlotNo) (r : MeterSlot) : (s.setMeter m r).accounts = s.accounts := rfl
@[simp] theorem State.setMeter_joinedNote (m : SlotNo) (r : MeterSlot) : (s.setMeter m r).joinedNote = s.joinedNote := rfl
@[simp] theorem State.setMeter_meters (m : SlotNo) (r : MeterSlot) : (s.setMeter m r).meters = s.meters.set m r := rfl
@[simp] theorem State.setMeter_pools (m : SlotNo) (r : MeterSlot) : (s.setMeter m r).pools = s.pools := rfl
@[simp] theorem State.setMeter_plant (m : SlotNo) (r : MeterSlot) : (s.setMeter m r).plant = s.plant := rfl
@[simp] theorem State.setMeter_lines (m : SlotNo) (r : MeterSlot) : (s.setMeter m r).lines = s.lines := rfl
@[simp] theorem State.setMeter_noAdvance (m : SlotNo) (r : MeterSlot) : (s.setMeter m r).noAdvance = s.noAdvance := rfl
@[simp] theorem State.setMeter_lineRate (m : SlotNo) (r : MeterSlot) : (s.setMeter m r).lineRate = s.lineRate := rfl
@[simp] theorem State.setMeter_clock (m : SlotNo) (r : MeterSlot) : (s.setMeter m r).clock = s.clock := rfl
@[simp] theorem State.setMeter_settle (m : SlotNo) (r : MeterSlot) : (s.setMeter m r).settle = s.settle := rfl
@[simp] theorem State.setMeter_period (m : SlotNo) (r : MeterSlot) : (s.setMeter m r).period = s.period := rfl
@[simp] theorem State.setMeter_stagedClose (m : SlotNo) (r : MeterSlot) : (s.setMeter m r).stagedClose = s.stagedClose := rfl
@[simp] theorem State.setMeter_queue (m : SlotNo) (r : MeterSlot) : (s.setMeter m r).queue = s.queue := rfl
@[simp] theorem State.setMeter_ring (m : SlotNo) (r : MeterSlot) : (s.setMeter m r).ring = s.ring := rfl
@[simp] theorem State.setMeter_faults (m : SlotNo) (r : MeterSlot) : (s.setMeter m r).faults = s.faults := rfl
@[simp] theorem State.setMeter_ports (m : SlotNo) (r : MeterSlot) : (s.setMeter m r).ports = s.ports := rfl
@[simp] theorem State.setMeter_receiver (m : SlotNo) (r : MeterSlot) : (s.setMeter m r).receiver = s.receiver := rfl
@[simp] theorem State.setMeter_capture (m : SlotNo) (r : MeterSlot) : (s.setMeter m r).capture = s.capture := rfl
@[simp] theorem State.setMeter_overruns (m : SlotNo) (r : MeterSlot) : (s.setMeter m r).overruns = s.overruns := rfl
@[simp] theorem State.setMeter_arbiter (m : SlotNo) (r : MeterSlot) : (s.setMeter m r).arbiter = s.arbiter := rfl
@[simp] theorem State.setMeter_supervisor (m : SlotNo) (r : MeterSlot) : (s.setMeter m r).supervisor = s.supervisor := rfl
@[simp] theorem State.setMeter_linePins (m : SlotNo) (r : MeterSlot) : (s.setMeter m r).linePins = s.linePins := rfl
@[simp] theorem State.setMeter_freeSeq (m : SlotNo) (r : MeterSlot) : (s.setMeter m r).freeSeq = s.freeSeq := rfl
@[simp] theorem State.setMeter_pending (m : SlotNo) (r : MeterSlot) : (s.setMeter m r).pending = s.pending := rfl

@[simp] theorem State.setPort_accounts (p : Port) (q : PortState) : (s.setPort p q).accounts = s.accounts := rfl
@[simp] theorem State.setPort_joinedNote (p : Port) (q : PortState) : (s.setPort p q).joinedNote = s.joinedNote := rfl
@[simp] theorem State.setPort_meters (p : Port) (q : PortState) : (s.setPort p q).meters = s.meters := rfl
@[simp] theorem State.setPort_pools (p : Port) (q : PortState) : (s.setPort p q).pools = s.pools := rfl
@[simp] theorem State.setPort_plant (p : Port) (q : PortState) : (s.setPort p q).plant = s.plant := rfl
@[simp] theorem State.setPort_lines (p : Port) (q : PortState) : (s.setPort p q).lines = s.lines := rfl
@[simp] theorem State.setPort_noAdvance (p : Port) (q : PortState) : (s.setPort p q).noAdvance = s.noAdvance := rfl
@[simp] theorem State.setPort_lineRate (p : Port) (q : PortState) : (s.setPort p q).lineRate = s.lineRate := rfl
@[simp] theorem State.setPort_clock (p : Port) (q : PortState) : (s.setPort p q).clock = s.clock := rfl
@[simp] theorem State.setPort_settle (p : Port) (q : PortState) : (s.setPort p q).settle = s.settle := rfl
@[simp] theorem State.setPort_period (p : Port) (q : PortState) : (s.setPort p q).period = s.period := rfl
@[simp] theorem State.setPort_stagedClose (p : Port) (q : PortState) : (s.setPort p q).stagedClose = s.stagedClose := rfl
@[simp] theorem State.setPort_queue (p : Port) (q : PortState) : (s.setPort p q).queue = s.queue := rfl
@[simp] theorem State.setPort_ring (p : Port) (q : PortState) : (s.setPort p q).ring = s.ring := rfl
@[simp] theorem State.setPort_faults (p : Port) (q : PortState) : (s.setPort p q).faults = s.faults := rfl
@[simp] theorem State.setPort_ports (p : Port) (q : PortState) : (s.setPort p q).ports = s.ports.set p q := rfl
@[simp] theorem State.setPort_receiver (p : Port) (q : PortState) : (s.setPort p q).receiver = s.receiver := rfl
@[simp] theorem State.setPort_capture (p : Port) (q : PortState) : (s.setPort p q).capture = s.capture := rfl
@[simp] theorem State.setPort_overruns (p : Port) (q : PortState) : (s.setPort p q).overruns = s.overruns := rfl
@[simp] theorem State.setPort_arbiter (p : Port) (q : PortState) : (s.setPort p q).arbiter = s.arbiter := rfl
@[simp] theorem State.setPort_supervisor (p : Port) (q : PortState) : (s.setPort p q).supervisor = s.supervisor := rfl
@[simp] theorem State.setPort_linePins (p : Port) (q : PortState) : (s.setPort p q).linePins = s.linePins := rfl
@[simp] theorem State.setPort_freeSeq (p : Port) (q : PortState) : (s.setPort p q).freeSeq = s.freeSeq := rfl
@[simp] theorem State.setPort_pending (p : Port) (q : PortState) : (s.setPort p q).pending = s.pending := rfl

@[simp] theorem State.setClock_accounts (c : Clock) : (s.setClock c).accounts = s.accounts := rfl
@[simp] theorem State.setClock_joinedNote (c : Clock) : (s.setClock c).joinedNote = s.joinedNote := rfl
@[simp] theorem State.setClock_meters (c : Clock) : (s.setClock c).meters = s.meters := rfl
@[simp] theorem State.setClock_pools (c : Clock) : (s.setClock c).pools = s.pools := rfl
@[simp] theorem State.setClock_plant (c : Clock) : (s.setClock c).plant = s.plant := rfl
@[simp] theorem State.setClock_lines (c : Clock) : (s.setClock c).lines = s.lines := rfl
@[simp] theorem State.setClock_noAdvance (c : Clock) : (s.setClock c).noAdvance = s.noAdvance := rfl
@[simp] theorem State.setClock_lineRate (c : Clock) : (s.setClock c).lineRate = s.lineRate := rfl
@[simp] theorem State.setClock_clock (c : Clock) : (s.setClock c).clock = c := rfl
@[simp] theorem State.setClock_settle (c : Clock) : (s.setClock c).settle = s.settle := rfl
@[simp] theorem State.setClock_period (c : Clock) : (s.setClock c).period = s.period := rfl
@[simp] theorem State.setClock_stagedClose (c : Clock) : (s.setClock c).stagedClose = s.stagedClose := rfl
@[simp] theorem State.setClock_queue (c : Clock) : (s.setClock c).queue = s.queue := rfl
@[simp] theorem State.setClock_ring (c : Clock) : (s.setClock c).ring = s.ring := rfl
@[simp] theorem State.setClock_faults (c : Clock) : (s.setClock c).faults = s.faults := rfl
@[simp] theorem State.setClock_ports (c : Clock) : (s.setClock c).ports = s.ports := rfl
@[simp] theorem State.setClock_receiver (c : Clock) : (s.setClock c).receiver = s.receiver := rfl
@[simp] theorem State.setClock_capture (c : Clock) : (s.setClock c).capture = s.capture := rfl
@[simp] theorem State.setClock_overruns (c : Clock) : (s.setClock c).overruns = s.overruns := rfl
@[simp] theorem State.setClock_arbiter (c : Clock) : (s.setClock c).arbiter = s.arbiter := rfl
@[simp] theorem State.setClock_supervisor (c : Clock) : (s.setClock c).supervisor = s.supervisor := rfl
@[simp] theorem State.setClock_linePins (c : Clock) : (s.setClock c).linePins = s.linePins := rfl
@[simp] theorem State.setClock_freeSeq (c : Clock) : (s.setClock c).freeSeq = s.freeSeq := rfl
@[simp] theorem State.setClock_pending (c : Clock) : (s.setClock c).pending = s.pending := rfl

@[simp] theorem State.setPlant_accounts (sv : Service) (r : PlantSlot) : (s.setPlant sv r).accounts = s.accounts := rfl
@[simp] theorem State.setPlant_joinedNote (sv : Service) (r : PlantSlot) : (s.setPlant sv r).joinedNote = s.joinedNote := rfl
@[simp] theorem State.setPlant_meters (sv : Service) (r : PlantSlot) : (s.setPlant sv r).meters = s.meters := rfl
@[simp] theorem State.setPlant_pools (sv : Service) (r : PlantSlot) : (s.setPlant sv r).pools = s.pools := rfl
@[simp] theorem State.setPlant_plant (sv : Service) (r : PlantSlot) : (s.setPlant sv r).plant = s.plant.set sv r := rfl
@[simp] theorem State.setPlant_lines (sv : Service) (r : PlantSlot) : (s.setPlant sv r).lines = s.lines := rfl
@[simp] theorem State.setPlant_noAdvance (sv : Service) (r : PlantSlot) : (s.setPlant sv r).noAdvance = s.noAdvance := rfl
@[simp] theorem State.setPlant_lineRate (sv : Service) (r : PlantSlot) : (s.setPlant sv r).lineRate = s.lineRate := rfl
@[simp] theorem State.setPlant_clock (sv : Service) (r : PlantSlot) : (s.setPlant sv r).clock = s.clock := rfl
@[simp] theorem State.setPlant_settle (sv : Service) (r : PlantSlot) : (s.setPlant sv r).settle = s.settle := rfl
@[simp] theorem State.setPlant_period (sv : Service) (r : PlantSlot) : (s.setPlant sv r).period = s.period := rfl
@[simp] theorem State.setPlant_stagedClose (sv : Service) (r : PlantSlot) : (s.setPlant sv r).stagedClose = s.stagedClose := rfl
@[simp] theorem State.setPlant_queue (sv : Service) (r : PlantSlot) : (s.setPlant sv r).queue = s.queue := rfl
@[simp] theorem State.setPlant_ring (sv : Service) (r : PlantSlot) : (s.setPlant sv r).ring = s.ring := rfl
@[simp] theorem State.setPlant_faults (sv : Service) (r : PlantSlot) : (s.setPlant sv r).faults = s.faults := rfl
@[simp] theorem State.setPlant_ports (sv : Service) (r : PlantSlot) : (s.setPlant sv r).ports = s.ports := rfl
@[simp] theorem State.setPlant_receiver (sv : Service) (r : PlantSlot) : (s.setPlant sv r).receiver = s.receiver := rfl
@[simp] theorem State.setPlant_capture (sv : Service) (r : PlantSlot) : (s.setPlant sv r).capture = s.capture := rfl
@[simp] theorem State.setPlant_overruns (sv : Service) (r : PlantSlot) : (s.setPlant sv r).overruns = s.overruns := rfl
@[simp] theorem State.setPlant_arbiter (sv : Service) (r : PlantSlot) : (s.setPlant sv r).arbiter = s.arbiter := rfl
@[simp] theorem State.setPlant_supervisor (sv : Service) (r : PlantSlot) : (s.setPlant sv r).supervisor = s.supervisor := rfl
@[simp] theorem State.setPlant_linePins (sv : Service) (r : PlantSlot) : (s.setPlant sv r).linePins = s.linePins := rfl
@[simp] theorem State.setPlant_freeSeq (sv : Service) (r : PlantSlot) : (s.setPlant sv r).freeSeq = s.freeSeq := rfl
@[simp] theorem State.setPlant_pending (sv : Service) (r : PlantSlot) : (s.setPlant sv r).pending = s.pending := rfl

@[simp] theorem State.setSupervisor_accounts (v : Supervisor) : (s.setSupervisor v).accounts = s.accounts := rfl
@[simp] theorem State.setSupervisor_joinedNote (v : Supervisor) : (s.setSupervisor v).joinedNote = s.joinedNote := rfl
@[simp] theorem State.setSupervisor_meters (v : Supervisor) : (s.setSupervisor v).meters = s.meters := rfl
@[simp] theorem State.setSupervisor_pools (v : Supervisor) : (s.setSupervisor v).pools = s.pools := rfl
@[simp] theorem State.setSupervisor_plant (v : Supervisor) : (s.setSupervisor v).plant = s.plant := rfl
@[simp] theorem State.setSupervisor_lines (v : Supervisor) : (s.setSupervisor v).lines = s.lines := rfl
@[simp] theorem State.setSupervisor_noAdvance (v : Supervisor) : (s.setSupervisor v).noAdvance = s.noAdvance := rfl
@[simp] theorem State.setSupervisor_lineRate (v : Supervisor) : (s.setSupervisor v).lineRate = s.lineRate := rfl
@[simp] theorem State.setSupervisor_clock (v : Supervisor) : (s.setSupervisor v).clock = s.clock := rfl
@[simp] theorem State.setSupervisor_settle (v : Supervisor) : (s.setSupervisor v).settle = s.settle := rfl
@[simp] theorem State.setSupervisor_period (v : Supervisor) : (s.setSupervisor v).period = s.period := rfl
@[simp] theorem State.setSupervisor_stagedClose (v : Supervisor) : (s.setSupervisor v).stagedClose = s.stagedClose := rfl
@[simp] theorem State.setSupervisor_queue (v : Supervisor) : (s.setSupervisor v).queue = s.queue := rfl
@[simp] theorem State.setSupervisor_ring (v : Supervisor) : (s.setSupervisor v).ring = s.ring := rfl
@[simp] theorem State.setSupervisor_faults (v : Supervisor) : (s.setSupervisor v).faults = s.faults := rfl
@[simp] theorem State.setSupervisor_ports (v : Supervisor) : (s.setSupervisor v).ports = s.ports := rfl
@[simp] theorem State.setSupervisor_receiver (v : Supervisor) : (s.setSupervisor v).receiver = s.receiver := rfl
@[simp] theorem State.setSupervisor_capture (v : Supervisor) : (s.setSupervisor v).capture = s.capture := rfl
@[simp] theorem State.setSupervisor_overruns (v : Supervisor) : (s.setSupervisor v).overruns = s.overruns := rfl
@[simp] theorem State.setSupervisor_arbiter (v : Supervisor) : (s.setSupervisor v).arbiter = s.arbiter := rfl
@[simp] theorem State.setSupervisor_supervisor (v : Supervisor) : (s.setSupervisor v).supervisor = v := rfl
@[simp] theorem State.setSupervisor_linePins (v : Supervisor) : (s.setSupervisor v).linePins = s.linePins := rfl
@[simp] theorem State.setSupervisor_freeSeq (v : Supervisor) : (s.setSupervisor v).freeSeq = s.freeSeq := rfl
@[simp] theorem State.setSupervisor_pending (v : Supervisor) : (s.setSupervisor v).pending = s.pending := rfl

@[simp] theorem State.receive_accounts (r : Receiver) : (s.receive r).accounts = s.accounts := rfl
@[simp] theorem State.receive_joinedNote (r : Receiver) : (s.receive r).joinedNote = s.joinedNote := rfl
@[simp] theorem State.receive_meters (r : Receiver) : (s.receive r).meters = s.meters := rfl
@[simp] theorem State.receive_pools (r : Receiver) : (s.receive r).pools = s.pools := rfl
@[simp] theorem State.receive_plant (r : Receiver) : (s.receive r).plant = s.plant := rfl
@[simp] theorem State.receive_lines (r : Receiver) : (s.receive r).lines = s.lines := rfl
@[simp] theorem State.receive_noAdvance (r : Receiver) : (s.receive r).noAdvance = s.noAdvance := rfl
@[simp] theorem State.receive_lineRate (r : Receiver) : (s.receive r).lineRate = s.lineRate := rfl
@[simp] theorem State.receive_clock (r : Receiver) : (s.receive r).clock = s.clock := rfl
@[simp] theorem State.receive_settle (r : Receiver) : (s.receive r).settle = s.settle := rfl
@[simp] theorem State.receive_period (r : Receiver) : (s.receive r).period = s.period := rfl
@[simp] theorem State.receive_stagedClose (r : Receiver) : (s.receive r).stagedClose = s.stagedClose := rfl
@[simp] theorem State.receive_queue (r : Receiver) : (s.receive r).queue = s.queue := rfl
@[simp] theorem State.receive_ring (r : Receiver) : (s.receive r).ring = s.ring := rfl
@[simp] theorem State.receive_faults (r : Receiver) : (s.receive r).faults = s.faults := rfl
@[simp] theorem State.receive_ports (r : Receiver) : (s.receive r).ports = s.ports := rfl
@[simp] theorem State.receive_receiver (r : Receiver) : (s.receive r).receiver = r := rfl
@[simp] theorem State.receive_capture (r : Receiver) : (s.receive r).capture = s.capture := rfl
@[simp] theorem State.receive_overruns (r : Receiver) : (s.receive r).overruns = s.overruns := rfl
@[simp] theorem State.receive_arbiter (r : Receiver) : (s.receive r).arbiter = s.arbiter := rfl
@[simp] theorem State.receive_supervisor (r : Receiver) : (s.receive r).supervisor = s.supervisor := rfl
@[simp] theorem State.receive_linePins (r : Receiver) : (s.receive r).linePins = s.linePins := rfl
@[simp] theorem State.receive_freeSeq (r : Receiver) : (s.receive r).freeSeq = s.freeSeq := rfl
@[simp] theorem State.receive_pending (r : Receiver) : (s.receive r).pending = s.pending := rfl

@[simp] theorem State.takeLevels_accounts (l : Half) : (s.takeLevels l).accounts = s.accounts := rfl
@[simp] theorem State.takeLevels_joinedNote (l : Half) : (s.takeLevels l).joinedNote = s.joinedNote := rfl
@[simp] theorem State.takeLevels_meters (l : Half) : (s.takeLevels l).meters = s.meters := rfl
@[simp] theorem State.takeLevels_pools (l : Half) : (s.takeLevels l).pools = s.pools := rfl
@[simp] theorem State.takeLevels_plant (l : Half) : (s.takeLevels l).plant = s.plant := rfl
@[simp] theorem State.takeLevels_lines (l : Half) : (s.takeLevels l).lines = s.lines := rfl
@[simp] theorem State.takeLevels_noAdvance (l : Half) : (s.takeLevels l).noAdvance = s.noAdvance := rfl
@[simp] theorem State.takeLevels_lineRate (l : Half) : (s.takeLevels l).lineRate = s.lineRate := rfl
@[simp] theorem State.takeLevels_clock (l : Half) : (s.takeLevels l).clock = s.clock := rfl
@[simp] theorem State.takeLevels_settle (l : Half) : (s.takeLevels l).settle = s.settle := rfl
@[simp] theorem State.takeLevels_period (l : Half) : (s.takeLevels l).period = s.period := rfl
@[simp] theorem State.takeLevels_stagedClose (l : Half) : (s.takeLevels l).stagedClose = s.stagedClose := rfl
@[simp] theorem State.takeLevels_queue (l : Half) : (s.takeLevels l).queue = s.queue := rfl
@[simp] theorem State.takeLevels_ring (l : Half) : (s.takeLevels l).ring = s.ring := rfl
@[simp] theorem State.takeLevels_faults (l : Half) : (s.takeLevels l).faults = s.faults := rfl
@[simp] theorem State.takeLevels_ports (l : Half) : (s.takeLevels l).ports = s.ports := rfl
@[simp] theorem State.takeLevels_receiver (l : Half) : (s.takeLevels l).receiver = s.receiver := rfl
@[simp] theorem State.takeLevels_capture (l : Half) : (s.takeLevels l).capture = s.capture := rfl
@[simp] theorem State.takeLevels_overruns (l : Half) : (s.takeLevels l).overruns = s.overruns := rfl
@[simp] theorem State.takeLevels_arbiter (l : Half) : (s.takeLevels l).arbiter = s.arbiter := rfl
@[simp] theorem State.takeLevels_supervisor (l : Half) : (s.takeLevels l).supervisor = s.supervisor := rfl
@[simp] theorem State.takeLevels_linePins (l : Half) : (s.takeLevels l).linePins = some l := rfl
@[simp] theorem State.takeLevels_freeSeq (l : Half) : (s.takeLevels l).freeSeq = s.freeSeq := rfl
@[simp] theorem State.takeLevels_pending (l : Half) : (s.takeLevels l).pending = s.pending := rfl

@[simp] theorem State.useFree_accounts (n : Nat) : (s.useFree n).accounts = s.accounts := rfl
@[simp] theorem State.useFree_joinedNote (n : Nat) : (s.useFree n).joinedNote = s.joinedNote := rfl
@[simp] theorem State.useFree_meters (n : Nat) : (s.useFree n).meters = s.meters := rfl
@[simp] theorem State.useFree_pools (n : Nat) : (s.useFree n).pools = s.pools := rfl
@[simp] theorem State.useFree_plant (n : Nat) : (s.useFree n).plant = s.plant := rfl
@[simp] theorem State.useFree_lines (n : Nat) : (s.useFree n).lines = s.lines := rfl
@[simp] theorem State.useFree_noAdvance (n : Nat) : (s.useFree n).noAdvance = s.noAdvance := rfl
@[simp] theorem State.useFree_lineRate (n : Nat) : (s.useFree n).lineRate = s.lineRate := rfl
@[simp] theorem State.useFree_clock (n : Nat) : (s.useFree n).clock = s.clock := rfl
@[simp] theorem State.useFree_settle (n : Nat) : (s.useFree n).settle = s.settle := rfl
@[simp] theorem State.useFree_period (n : Nat) : (s.useFree n).period = s.period := rfl
@[simp] theorem State.useFree_stagedClose (n : Nat) : (s.useFree n).stagedClose = s.stagedClose := rfl
@[simp] theorem State.useFree_queue (n : Nat) : (s.useFree n).queue = s.queue := rfl
@[simp] theorem State.useFree_ring (n : Nat) : (s.useFree n).ring = s.ring := rfl
@[simp] theorem State.useFree_faults (n : Nat) : (s.useFree n).faults = s.faults := rfl
@[simp] theorem State.useFree_ports (n : Nat) : (s.useFree n).ports = s.ports := rfl
@[simp] theorem State.useFree_receiver (n : Nat) : (s.useFree n).receiver = s.receiver := rfl
@[simp] theorem State.useFree_capture (n : Nat) : (s.useFree n).capture = s.capture := rfl
@[simp] theorem State.useFree_overruns (n : Nat) : (s.useFree n).overruns = s.overruns := rfl
@[simp] theorem State.useFree_arbiter (n : Nat) : (s.useFree n).arbiter = s.arbiter := rfl
@[simp] theorem State.useFree_supervisor (n : Nat) : (s.useFree n).supervisor = s.supervisor := rfl
@[simp] theorem State.useFree_linePins (n : Nat) : (s.useFree n).linePins = s.linePins := rfl
@[simp] theorem State.useFree_freeSeq (n : Nat) : (s.useFree n).freeSeq = s.freeSeq + n := rfl
@[simp] theorem State.useFree_pending (n : Nat) : (s.useFree n).pending = s.pending := rfl

@[simp] theorem State.raise_accounts (c : FaultClass) (sub : Subject) (n : Nat) : (s.raise c sub n).accounts = s.accounts := rfl
@[simp] theorem State.raise_joinedNote (c : FaultClass) (sub : Subject) (n : Nat) : (s.raise c sub n).joinedNote = s.joinedNote := rfl
@[simp] theorem State.raise_meters (c : FaultClass) (sub : Subject) (n : Nat) : (s.raise c sub n).meters = s.meters := rfl
@[simp] theorem State.raise_pools (c : FaultClass) (sub : Subject) (n : Nat) : (s.raise c sub n).pools = s.pools := rfl
@[simp] theorem State.raise_plant (c : FaultClass) (sub : Subject) (n : Nat) : (s.raise c sub n).plant = s.plant := rfl
@[simp] theorem State.raise_lines (c : FaultClass) (sub : Subject) (n : Nat) : (s.raise c sub n).lines = s.lines := rfl
@[simp] theorem State.raise_noAdvance (c : FaultClass) (sub : Subject) (n : Nat) : (s.raise c sub n).noAdvance = s.noAdvance := rfl
@[simp] theorem State.raise_lineRate (c : FaultClass) (sub : Subject) (n : Nat) : (s.raise c sub n).lineRate = s.lineRate := rfl
@[simp] theorem State.raise_clock (c : FaultClass) (sub : Subject) (n : Nat) : (s.raise c sub n).clock = s.clock := rfl
@[simp] theorem State.raise_settle (c : FaultClass) (sub : Subject) (n : Nat) : (s.raise c sub n).settle = s.settle := rfl
@[simp] theorem State.raise_period (c : FaultClass) (sub : Subject) (n : Nat) : (s.raise c sub n).period = s.period := rfl
@[simp] theorem State.raise_stagedClose (c : FaultClass) (sub : Subject) (n : Nat) : (s.raise c sub n).stagedClose = s.stagedClose := rfl
@[simp] theorem State.raise_queue (c : FaultClass) (sub : Subject) (n : Nat) : (s.raise c sub n).queue = s.queue := rfl
@[simp] theorem State.raise_ring (c : FaultClass) (sub : Subject) (n : Nat) : (s.raise c sub n).ring = s.ring := rfl
@[simp] theorem State.raise_faults (c : FaultClass) (sub : Subject) (n : Nat) : (s.raise c sub n).faults = s.faults.raise c sub n := rfl
@[simp] theorem State.raise_ports (c : FaultClass) (sub : Subject) (n : Nat) : (s.raise c sub n).ports = s.ports := rfl
@[simp] theorem State.raise_receiver (c : FaultClass) (sub : Subject) (n : Nat) : (s.raise c sub n).receiver = s.receiver := rfl
@[simp] theorem State.raise_capture (c : FaultClass) (sub : Subject) (n : Nat) : (s.raise c sub n).capture = s.capture := rfl
@[simp] theorem State.raise_overruns (c : FaultClass) (sub : Subject) (n : Nat) : (s.raise c sub n).overruns = s.overruns := rfl
@[simp] theorem State.raise_arbiter (c : FaultClass) (sub : Subject) (n : Nat) : (s.raise c sub n).arbiter = s.arbiter := rfl
@[simp] theorem State.raise_supervisor (c : FaultClass) (sub : Subject) (n : Nat) : (s.raise c sub n).supervisor = s.supervisor := rfl
@[simp] theorem State.raise_linePins (c : FaultClass) (sub : Subject) (n : Nat) : (s.raise c sub n).linePins = s.linePins := rfl
@[simp] theorem State.raise_freeSeq (c : FaultClass) (sub : Subject) (n : Nat) : (s.raise c sub n).freeSeq = s.freeSeq := rfl
@[simp] theorem State.raise_pending (c : FaultClass) (sub : Subject) (n : Nat) : (s.raise c sub n).pending = s.pending := rfl

@[simp] theorem State.endCondition_accounts (c : FaultClass) (sub : Subject) : (s.endCondition c sub).accounts = s.accounts := rfl
@[simp] theorem State.endCondition_joinedNote (c : FaultClass) (sub : Subject) : (s.endCondition c sub).joinedNote = s.joinedNote := rfl
@[simp] theorem State.endCondition_meters (c : FaultClass) (sub : Subject) : (s.endCondition c sub).meters = s.meters := rfl
@[simp] theorem State.endCondition_pools (c : FaultClass) (sub : Subject) : (s.endCondition c sub).pools = s.pools := rfl
@[simp] theorem State.endCondition_plant (c : FaultClass) (sub : Subject) : (s.endCondition c sub).plant = s.plant := rfl
@[simp] theorem State.endCondition_lines (c : FaultClass) (sub : Subject) : (s.endCondition c sub).lines = s.lines := rfl
@[simp] theorem State.endCondition_noAdvance (c : FaultClass) (sub : Subject) : (s.endCondition c sub).noAdvance = s.noAdvance := rfl
@[simp] theorem State.endCondition_lineRate (c : FaultClass) (sub : Subject) : (s.endCondition c sub).lineRate = s.lineRate := rfl
@[simp] theorem State.endCondition_clock (c : FaultClass) (sub : Subject) : (s.endCondition c sub).clock = s.clock := rfl
@[simp] theorem State.endCondition_settle (c : FaultClass) (sub : Subject) : (s.endCondition c sub).settle = s.settle := rfl
@[simp] theorem State.endCondition_period (c : FaultClass) (sub : Subject) : (s.endCondition c sub).period = s.period := rfl
@[simp] theorem State.endCondition_stagedClose (c : FaultClass) (sub : Subject) : (s.endCondition c sub).stagedClose = s.stagedClose := rfl
@[simp] theorem State.endCondition_queue (c : FaultClass) (sub : Subject) : (s.endCondition c sub).queue = s.queue := rfl
@[simp] theorem State.endCondition_ring (c : FaultClass) (sub : Subject) : (s.endCondition c sub).ring = s.ring := rfl
@[simp] theorem State.endCondition_faults (c : FaultClass) (sub : Subject) : (s.endCondition c sub).faults = s.faults.endCondition c sub := rfl
@[simp] theorem State.endCondition_ports (c : FaultClass) (sub : Subject) : (s.endCondition c sub).ports = s.ports := rfl
@[simp] theorem State.endCondition_receiver (c : FaultClass) (sub : Subject) : (s.endCondition c sub).receiver = s.receiver := rfl
@[simp] theorem State.endCondition_capture (c : FaultClass) (sub : Subject) : (s.endCondition c sub).capture = s.capture := rfl
@[simp] theorem State.endCondition_overruns (c : FaultClass) (sub : Subject) : (s.endCondition c sub).overruns = s.overruns := rfl
@[simp] theorem State.endCondition_arbiter (c : FaultClass) (sub : Subject) : (s.endCondition c sub).arbiter = s.arbiter := rfl
@[simp] theorem State.endCondition_supervisor (c : FaultClass) (sub : Subject) : (s.endCondition c sub).supervisor = s.supervisor := rfl
@[simp] theorem State.endCondition_linePins (c : FaultClass) (sub : Subject) : (s.endCondition c sub).linePins = s.linePins := rfl
@[simp] theorem State.endCondition_freeSeq (c : FaultClass) (sub : Subject) : (s.endCondition c sub).freeSeq = s.freeSeq := rfl
@[simp] theorem State.endCondition_pending (c : FaultClass) (sub : Subject) : (s.endCondition c sub).pending = s.pending := rfl

@[simp] theorem State.beginGrant_accounts (r : Requester) : (s.beginGrant r).accounts = s.accounts := rfl
@[simp] theorem State.beginGrant_joinedNote (r : Requester) : (s.beginGrant r).joinedNote = s.joinedNote := rfl
@[simp] theorem State.beginGrant_meters (r : Requester) : (s.beginGrant r).meters = s.meters := rfl
@[simp] theorem State.beginGrant_pools (r : Requester) : (s.beginGrant r).pools = s.pools := rfl
@[simp] theorem State.beginGrant_plant (r : Requester) : (s.beginGrant r).plant = s.plant := rfl
@[simp] theorem State.beginGrant_lines (r : Requester) : (s.beginGrant r).lines = s.lines := rfl
@[simp] theorem State.beginGrant_noAdvance (r : Requester) : (s.beginGrant r).noAdvance = s.noAdvance := rfl
@[simp] theorem State.beginGrant_lineRate (r : Requester) : (s.beginGrant r).lineRate = s.lineRate := rfl
@[simp] theorem State.beginGrant_clock (r : Requester) : (s.beginGrant r).clock = s.clock := rfl
@[simp] theorem State.beginGrant_settle (r : Requester) : (s.beginGrant r).settle = s.settle := rfl
@[simp] theorem State.beginGrant_period (r : Requester) : (s.beginGrant r).period = s.period := rfl
@[simp] theorem State.beginGrant_stagedClose (r : Requester) : (s.beginGrant r).stagedClose = s.stagedClose := rfl
@[simp] theorem State.beginGrant_queue (r : Requester) : (s.beginGrant r).queue = s.queue := rfl
@[simp] theorem State.beginGrant_ring (r : Requester) : (s.beginGrant r).ring = s.ring := rfl
@[simp] theorem State.beginGrant_faults (r : Requester) : (s.beginGrant r).faults = s.faults := rfl
@[simp] theorem State.beginGrant_ports (r : Requester) : (s.beginGrant r).ports = s.ports := rfl
@[simp] theorem State.beginGrant_receiver (r : Requester) : (s.beginGrant r).receiver = s.receiver := rfl
@[simp] theorem State.beginGrant_capture (r : Requester) : (s.beginGrant r).capture = s.capture := rfl
@[simp] theorem State.beginGrant_overruns (r : Requester) : (s.beginGrant r).overruns = s.overruns := rfl
@[simp] theorem State.beginGrant_supervisor (r : Requester) : (s.beginGrant r).supervisor = s.supervisor := rfl
@[simp] theorem State.beginGrant_linePins (r : Requester) : (s.beginGrant r).linePins = s.linePins := rfl
@[simp] theorem State.beginGrant_freeSeq (r : Requester) : (s.beginGrant r).freeSeq = s.freeSeq := rfl
@[simp] theorem State.beginGrant_pending (r : Requester) : (s.beginGrant r).pending = s.pending := rfl

@[simp] theorem State.endGrant_accounts (r : Requester) : (s.endGrant r).accounts = s.accounts := rfl
@[simp] theorem State.endGrant_joinedNote (r : Requester) : (s.endGrant r).joinedNote = s.joinedNote := rfl
@[simp] theorem State.endGrant_meters (r : Requester) : (s.endGrant r).meters = s.meters := rfl
@[simp] theorem State.endGrant_pools (r : Requester) : (s.endGrant r).pools = s.pools := rfl
@[simp] theorem State.endGrant_plant (r : Requester) : (s.endGrant r).plant = s.plant := rfl
@[simp] theorem State.endGrant_lines (r : Requester) : (s.endGrant r).lines = s.lines := rfl
@[simp] theorem State.endGrant_noAdvance (r : Requester) : (s.endGrant r).noAdvance = s.noAdvance := rfl
@[simp] theorem State.endGrant_lineRate (r : Requester) : (s.endGrant r).lineRate = s.lineRate := rfl
@[simp] theorem State.endGrant_clock (r : Requester) : (s.endGrant r).clock = s.clock := rfl
@[simp] theorem State.endGrant_settle (r : Requester) : (s.endGrant r).settle = s.settle := rfl
@[simp] theorem State.endGrant_period (r : Requester) : (s.endGrant r).period = s.period := rfl
@[simp] theorem State.endGrant_stagedClose (r : Requester) : (s.endGrant r).stagedClose = s.stagedClose := rfl
@[simp] theorem State.endGrant_queue (r : Requester) : (s.endGrant r).queue = s.queue := rfl
@[simp] theorem State.endGrant_ring (r : Requester) : (s.endGrant r).ring = s.ring := rfl
@[simp] theorem State.endGrant_faults (r : Requester) : (s.endGrant r).faults = s.faults := rfl
@[simp] theorem State.endGrant_ports (r : Requester) : (s.endGrant r).ports = s.ports := rfl
@[simp] theorem State.endGrant_receiver (r : Requester) : (s.endGrant r).receiver = s.receiver := rfl
@[simp] theorem State.endGrant_capture (r : Requester) : (s.endGrant r).capture = s.capture := rfl
@[simp] theorem State.endGrant_overruns (r : Requester) : (s.endGrant r).overruns = s.overruns := rfl
@[simp] theorem State.endGrant_supervisor (r : Requester) : (s.endGrant r).supervisor = s.supervisor := rfl
@[simp] theorem State.endGrant_linePins (r : Requester) : (s.endGrant r).linePins = s.linePins := rfl
@[simp] theorem State.endGrant_freeSeq (r : Requester) : (s.endGrant r).freeSeq = s.freeSeq := rfl
@[simp] theorem State.endGrant_pending (r : Requester) : (s.endGrant r).pending = s.pending := rfl

@[simp] theorem State.takeRequest_accounts (p : Port) (f : List Byte) : (s.takeRequest p f).accounts = s.accounts := rfl
@[simp] theorem State.takeRequest_joinedNote (p : Port) (f : List Byte) : (s.takeRequest p f).joinedNote = s.joinedNote := rfl
@[simp] theorem State.takeRequest_meters (p : Port) (f : List Byte) : (s.takeRequest p f).meters = s.meters := rfl
@[simp] theorem State.takeRequest_pools (p : Port) (f : List Byte) : (s.takeRequest p f).pools = s.pools := rfl
@[simp] theorem State.takeRequest_plant (p : Port) (f : List Byte) : (s.takeRequest p f).plant = s.plant := rfl
@[simp] theorem State.takeRequest_lines (p : Port) (f : List Byte) : (s.takeRequest p f).lines = s.lines := rfl
@[simp] theorem State.takeRequest_noAdvance (p : Port) (f : List Byte) : (s.takeRequest p f).noAdvance = s.noAdvance := rfl
@[simp] theorem State.takeRequest_lineRate (p : Port) (f : List Byte) : (s.takeRequest p f).lineRate = s.lineRate := rfl
@[simp] theorem State.takeRequest_clock (p : Port) (f : List Byte) : (s.takeRequest p f).clock = s.clock := rfl
@[simp] theorem State.takeRequest_settle (p : Port) (f : List Byte) : (s.takeRequest p f).settle = s.settle := rfl
@[simp] theorem State.takeRequest_period (p : Port) (f : List Byte) : (s.takeRequest p f).period = s.period := rfl
@[simp] theorem State.takeRequest_stagedClose (p : Port) (f : List Byte) : (s.takeRequest p f).stagedClose = s.stagedClose := rfl
@[simp] theorem State.takeRequest_queue (p : Port) (f : List Byte) : (s.takeRequest p f).queue = s.queue := rfl
@[simp] theorem State.takeRequest_ring (p : Port) (f : List Byte) : (s.takeRequest p f).ring = s.ring := rfl
@[simp] theorem State.takeRequest_faults (p : Port) (f : List Byte) : (s.takeRequest p f).faults = s.faults := rfl
@[simp] theorem State.takeRequest_receiver (p : Port) (f : List Byte) : (s.takeRequest p f).receiver = s.receiver := rfl
@[simp] theorem State.takeRequest_capture (p : Port) (f : List Byte) : (s.takeRequest p f).capture = s.capture := rfl
@[simp] theorem State.takeRequest_overruns (p : Port) (f : List Byte) : (s.takeRequest p f).overruns = s.overruns := rfl
@[simp] theorem State.takeRequest_arbiter (p : Port) (f : List Byte) : (s.takeRequest p f).arbiter = s.arbiter := rfl
@[simp] theorem State.takeRequest_supervisor (p : Port) (f : List Byte) : (s.takeRequest p f).supervisor = s.supervisor := rfl
@[simp] theorem State.takeRequest_linePins (p : Port) (f : List Byte) : (s.takeRequest p f).linePins = s.linePins := rfl
@[simp] theorem State.takeRequest_freeSeq (p : Port) (f : List Byte) : (s.takeRequest p f).freeSeq = s.freeSeq := rfl
@[simp] theorem State.takeRequest_pending (p : Port) (f : List Byte) : (s.takeRequest p f).pending = s.pending := rfl

@[simp] theorem State.complete_accounts (p : Port) (r : Result) (d : List Byte) : (s.complete p r d).accounts = s.accounts := rfl
@[simp] theorem State.complete_joinedNote (p : Port) (r : Result) (d : List Byte) : (s.complete p r d).joinedNote = s.joinedNote := rfl
@[simp] theorem State.complete_meters (p : Port) (r : Result) (d : List Byte) : (s.complete p r d).meters = s.meters := rfl
@[simp] theorem State.complete_pools (p : Port) (r : Result) (d : List Byte) : (s.complete p r d).pools = s.pools := rfl
@[simp] theorem State.complete_plant (p : Port) (r : Result) (d : List Byte) : (s.complete p r d).plant = s.plant := rfl
@[simp] theorem State.complete_lines (p : Port) (r : Result) (d : List Byte) : (s.complete p r d).lines = s.lines := rfl
@[simp] theorem State.complete_noAdvance (p : Port) (r : Result) (d : List Byte) : (s.complete p r d).noAdvance = s.noAdvance := rfl
@[simp] theorem State.complete_lineRate (p : Port) (r : Result) (d : List Byte) : (s.complete p r d).lineRate = s.lineRate := rfl
@[simp] theorem State.complete_clock (p : Port) (r : Result) (d : List Byte) : (s.complete p r d).clock = s.clock := rfl
@[simp] theorem State.complete_settle (p : Port) (r : Result) (d : List Byte) : (s.complete p r d).settle = s.settle := rfl
@[simp] theorem State.complete_period (p : Port) (r : Result) (d : List Byte) : (s.complete p r d).period = s.period := rfl
@[simp] theorem State.complete_stagedClose (p : Port) (r : Result) (d : List Byte) : (s.complete p r d).stagedClose = s.stagedClose := rfl
@[simp] theorem State.complete_queue (p : Port) (r : Result) (d : List Byte) : (s.complete p r d).queue = s.queue := rfl
@[simp] theorem State.complete_ring (p : Port) (r : Result) (d : List Byte) : (s.complete p r d).ring = s.ring := rfl
@[simp] theorem State.complete_faults (p : Port) (r : Result) (d : List Byte) : (s.complete p r d).faults = s.faults := rfl
@[simp] theorem State.complete_receiver (p : Port) (r : Result) (d : List Byte) : (s.complete p r d).receiver = s.receiver := rfl
@[simp] theorem State.complete_capture (p : Port) (r : Result) (d : List Byte) : (s.complete p r d).capture = s.capture := rfl
@[simp] theorem State.complete_overruns (p : Port) (r : Result) (d : List Byte) : (s.complete p r d).overruns = s.overruns := rfl
@[simp] theorem State.complete_arbiter (p : Port) (r : Result) (d : List Byte) : (s.complete p r d).arbiter = s.arbiter := rfl
@[simp] theorem State.complete_supervisor (p : Port) (r : Result) (d : List Byte) : (s.complete p r d).supervisor = s.supervisor := rfl
@[simp] theorem State.complete_linePins (p : Port) (r : Result) (d : List Byte) : (s.complete p r d).linePins = s.linePins := rfl
@[simp] theorem State.complete_freeSeq (p : Port) (r : Result) (d : List Byte) : (s.complete p r d).freeSeq = s.freeSeq := rfl
@[simp] theorem State.complete_pending (p : Port) (r : Result) (d : List Byte) : (s.complete p r d).pending = s.pending := rfl

end Sys2Proof.Machine
end

