-- ==== Sys2Proof/Laws/Tables.lean ====
section
/-!
SUPPORT. Reading after writing: the fixed-length table and the small per-port, per-service, per-pool and per-band
records.
-/

namespace Sys2Proof

/-- Two tables with the same rows are the same. -/
theorem Table.ext_rows {α : Type} {n : Nat} {t u : Table α n} (h : t.rows = u.rows) : t = u := by
  cases t; cases u; cases h; rfl

/-- A row is the list's element at the position. -/
theorem Table.get_eq {α : Type} {n : Nat} (t : Table α n) (i : Fin n) :
    t.get i = t.rows[i.val]'(t.size.symm ▸ i.isLt) := rfl

/-- Two tables that read the same at every position are the same. -/
theorem Table.ext_get {α : Type} {n : Nat} {t u : Table α n} (h : ∀ i, t.get i = u.get i) : t = u := by
  apply Table.ext_rows
  apply List.ext_getElem
  · rw [t.size, u.size]
  · intro k h1 h2
    have := h ⟨k, t.size ▸ h1⟩
    exact this

@[simp] theorem Table.get_set_self {α : Type} {n : Nat} (t : Table α n) (i : Fin n) (a : α) : (t.set i a).get i = a := by
  simp [Table.get_eq, Table.set]

theorem Table.get_set_ne {α : Type} {n : Nat} (t : Table α n) {i j : Fin n} (a : α) (h : i ≠ j) :
    (t.set i a).get j = t.get j := by
  have : i.val ≠ j.val := fun e => h (Fin.ext e)
  simp [Table.get_eq, Table.set, this]

theorem Table.get_set {α : Type} {n : Nat} (t : Table α n) (i j : Fin n) (a : α) :
    (t.set i a).get j = if i = j then a else t.get j := by
  by_cases h : i = j
  · subst h; simp
  · simp [h, t.get_set_ne a h]

@[simp] theorem Table.get_ofFn {α : Type} {n : Nat} (f : Fin n → α) (i : Fin n) : (Table.ofFn f).get i = f i := by
  simp [Table.get_eq, Table.ofFn]

@[simp] theorem Table.get_fill {α : Type} {n : Nat} (a : α) (i : Fin n) : (Table.fill n a).get i = a := by
  simp [Table.get_eq, Table.fill]

@[simp] theorem Table.get_map {α β : Type} {n : Nat} (t : Table α n) (f : α → β) (i : Fin n) :
    (t.map f).get i = f (t.get i) := by
  simp [Table.get_eq, Table.map]

theorem Table.get_modify {α : Type} {n : Nat} (t : Table α n) (i j : Fin n) (f : α → α) :
    (t.modify i f).get j = if i = j then f (t.get j) else t.get j := by
  unfold Table.modify
  rw [Table.get_set]
  split
  · next h => rw [h]
  · rfl

@[simp] theorem Table.set_get {α : Type} {n : Nat} (t : Table α n) (i : Fin n) : t.set i (t.get i) = t := by
  apply Table.ext_get
  intro j
  rw [Table.get_set]
  split
  · next h => rw [h]
  · rfl

@[simp] theorem Table.set_set {α : Type} {n : Nat} (t : Table α n) (i : Fin n) (a b : α) :
    (t.set i a).set i b = t.set i b := by
  apply Table.ext_rows
  simp [Table.set]

@[simp] theorem PerService.get_set_self {α : Type} (x : PerService α) (sv : Service) (a : α) : (x.set sv a).get sv = a := by
  cases sv <;> rfl

theorem PerService.get_set {α : Type} (x : PerService α) (sv tv : Service) (a : α) :
    (x.set sv a).get tv = if sv = tv then a else x.get tv := by
  cases sv <;> cases tv <;> rfl

@[simp] theorem PerService.get_ofFn {α : Type} (f : Service → α) (sv : Service) : (PerService.ofFn f).get sv = f sv := by
  cases sv <;> rfl

@[simp] theorem PerService.get_map {α β : Type} (x : PerService α) (f : α → β) (sv : Service) :
    (x.map f).get sv = f (x.get sv) := by
  cases sv <;> rfl

theorem Port.other_ne (p : Port) : p.other ≠ p := by cases p <;> decide

@[simp] theorem Port.other_other (p : Port) : p.other.other = p := by cases p <;> rfl

/-- A port other than `p` is the other port. -/
theorem Port.eq_other {p q : Port} (h : q ≠ p) : q = p.other := by cases p <;> cases q <;> first | rfl | exact absurd rfl h

namespace Machine

@[simp] theorem PerPort.get_set_self {α : Type} (x : PerPort α) (p : Port) (a : α) : (x.set p a).get p = a := by
  cases p <;> rfl

@[simp] theorem PerPort.get_set_other {α : Type} (x : PerPort α) (p : Port) (a : α) :
    (x.set p a).get p.other = x.get p.other := by
  cases p <;> rfl

theorem PerPort.get_set {α : Type} (x : PerPort α) (p q : Port) (a : α) :
    (x.set p a).get q = if p = q then a else x.get q := by
  cases p <;> cases q <;> rfl

@[simp] theorem PerPort.set_set {α : Type} (x : PerPort α) (p : Port) (a b : α) : (x.set p a).set p b = x.set p b := by
  cases p <;> rfl

@[simp] theorem PerPort.set_get {α : Type} (x : PerPort α) (p : Port) : x.set p (x.get p) = x := by
  cases p <;> rfl

@[simp] theorem PerPort.get_ofFn {α : Type} (f : Port → α) (p : Port) : (PerPort.ofFn f).get p = f p := by
  cases p <;> rfl

theorem PerPool.get_set {α : Type} (x : PerPool α) (p q : Pool) (a : α) :
    (x.set p a).get q = if p = q then a else x.get q := by
  cases p <;> cases q <;> rfl

end Machine

end Sys2Proof
end

