-- ==== Sys2Proof/Laws/Boundary.lean ====
section
/-!
SUPPORT. What the two boundary operations do, once and whole: `State.tookBoundary` and `State.tookAlignment` hold of
them.
-/

namespace Sys2Proof.Machine

/-- A slot's boundary update, field by field. -/
theorem MeterSlot.atBoundary_eq (k : MeterSlot) : k.atBoundary = { k with
      state := k.stateAfter
      missed := if k.state = .off then k.missed
        else if k.frameSeen then 0 else addSat 255 k.missed 1
      frameSeen := decide (k.state = .off) && k.frameSeen } := by
  simp only [MeterSlot.atBoundary, MeterSlot.stateAfter, MeterSlot.turnsLate]
  by_cases h : k.state = .off
  · cases k; simp_all
  · rw [if_neg h]; simp [h, -ite_eq_left_iff]

/-- What the boundary update of some slots does: each of them updated, and METER-LATE raised for those that turn LATE. -/
theorem State.foldl_meterBoundary (l : List SlotNo) (hn : l.Nodup) (s : State) :
    l.foldl State.meterBoundary s = { s with
      meters := (l.foldl State.meterBoundary s).meters
      faults := (l.filter fun m => (s.meter m).turnsLate).foldl (fun f m => f.raise .meterLate (.meter m) s.clock.interval) s.faults } ∧
    ∀ m, (l.foldl State.meterBoundary s).meter m = if m ∈ l then (s.meter m).atBoundary else s.meter m := by
  induction l generalizing s with
  | nil => simp
  | cons x l ih =>
    obtain ⟨hx, hl⟩ := List.nodup_cons.1 hn
    have hl1 : ((s.meter x).state = .live ∧ (s.meter x).atBoundary.state = .late) ↔ (s.meter x).turnsLate = true := by
      rw [MeterSlot.atBoundary_eq]; simp only [MeterSlot.stateAfter]
      constructor
      · rintro ⟨h1, h2⟩; by_cases h : (s.meter x).turnsLate = true
        · exact h
        · simp [h, h1] at h2
      · intro h; simp [h]; simp [MeterSlot.turnsLate] at h; exact h.1
    have h1 : s.meterBoundary x = { s with meters := s.meters.set x (s.meter x).atBoundary, faults := if (s.meter x).turnsLate then s.faults.raise .meterLate (.meter x) s.clock.interval else s.faults } := by
      simp only [State.meterBoundary]
      split
      · rename_i h; simp [hl1.1 h, State.raise, State.setMeter]
      · rename_i h
        have h' : (s.meter x).turnsLate = false := by simpa using fun hh => h (hl1.2 hh)
        simp [h', State.setMeter]
    have hm : ∀ m, m ∈ l → (s.meterBoundary x).meter m = s.meter m := by
      intro m hm; rw [h1]; simp only [State.meter]; rw [Table.get_set_ne _ _ (by rintro rfl; exact hx hm)]
    obtain ⟨ih1, ih2⟩ := ih hl (s.meterBoundary x)
    simp only [List.foldl_cons]
    constructor
    · rw [ih1]
      have hfil : (l.filter fun m => ((s.meterBoundary x).meter m).turnsLate) = l.filter fun m => (s.meter m).turnsLate := by
        apply List.filter_congr; intro m hm'; rw [hm m hm']
      rw [hfil]
      rw [h1]; simp only [List.filter_cons]
      split
      · simp
      · simp
    · intro m
      rw [ih2]
      by_cases hml : m ∈ l
      · simp [hml, hm m hml]
      · by_cases hmx : m = x
        · subst hmx; simp [hml, h1, State.meter]
        · simp [hml, hmx, h1, State.meter]; rw [Table.get_set_ne _ _ (fun h => hmx h.symm)]

/-- The bank's record of an account rests on the accounts and the joined notes alone. -/
theorem State.bankAccount_congr {s t : State} (h1 : t.accounts = s.accounts) (h2 : t.joinedNote = s.joinedNote) (a : AccountNo) :
   t.bankAccount a = { recorded := s.recorded a, settings := (s.account a).inForce, meterPos := (s.account a).meterPos } := by
  cases s; cases t; cases h1; cases h2; rfl

/-- Some staged setting is one of the four of the clock or some account's (R29). -/
theorem State.settingsStaged_iff (s : State) : s.settingsStaged = true ↔
    s.clock.stagedLength ≠ none ∨ s.clock.stagedBand ≠ none ∨ s.clock.stagedPrices ≠ none ∨
      s.clock.stagedTolerance ≠ none ∨ ∃ a, (s.account a).stagedSettings ≠ none := by
  simp [State.settingsStaged, Option.isSome_iff_ne_none, or_assoc]

/-- Whether a staged setting waits rests on the clock and the accounts alone. -/
theorem State.settingsStaged_congr {s t : State} (h1 : t.clock = s.clock) (h2 : t.accounts = s.accounts) :
    t.settingsStaged = s.settingsStaged := by
  cases s; cases t; cases h1; cases h2; rfl

/-- What the bank records of an account's tenancy (R6). -/
theorem State.recorded_eq (s : State) (a : AccountNo) : s.recorded a =
    if s.joinedNote.get a = true then .joined
    else if (s.account a).tenancy = .joined then .vacant else (s.account a).tenancy := rfl

/-- Everything a boundary in RUNNING does (R33). -/
theorem State.boundary_spec (s : State) : s.tookBoundary s.boundary := by
  obtain ⟨h1, h2⟩ := State.foldl_meterBoundary (List.finRange 64) (List.nodup_finRange 64) s
  have h0 : s.metersAtBoundary = (List.finRange 64).foldl State.meterBoundary s := rfl
  rw [← h0] at h1 h2
  have hB : s.boundary = { s.metersAtBoundary.beginInterval (nextInterval s.clock.interval) with settle := .compute s.metersAtBoundary.fillBank [], stagedClose := false } := rfl
  have hm : ∀ m, s.metersAtBoundary.meters.get m = (s.meter m).atBoundary := by intro m; simpa [State.meter] using h2 m
  have hn : (if s.clock.interval = 4294967295 then 1 else s.clock.interval + 1) = nextInterval s.clock.interval := rfl
  simp only [State.tookBoundary, State.began, hn]
  have hs : s.metersAtBoundary.settingsStaged = s.settingsStaged := State.settingsStaged_congr (by rw [h1]) (by rw [h1])
  have hc : s.metersAtBoundary.clock = s.clock := by rw [h1]
  refine ⟨⟨?_, ?_, ?_, ?_, ?_, ?_⟩, ?_, ?_, ?_, ?_, ?_, ?_⟩
  · simp only [hB, State.beginInterval, Clock.begin, hc]
  · rw [← s.settingsStaged_iff, hB, ← hs]
    simp only [State.beginInterval, Clock.begin]
  · intro sv; rw [hB, h1]; simp [State.beginInterval, PlantSlot.emptied]
  · intro l; rw [hB, h1]; simp [State.beginInterval, RuntimeLine.emptied]
  · intro a; rw [hB, h1]; simp only [State.beginInterval, State.account, Table.get_map]; rfl
  · intro a; rw [hB, h1]
    simp only [State.beginInterval, State.account, Table.get_map, Account.atBoundary, Account.applySettings]
    rcases ht : (s.accounts.get a).tenancy <;> simp [Account.completeMove]
  · intro a; rw [hB, h1]
    simp only [State.beginInterval, State.account, Table.get_map, Account.atBoundary, Account.applySettings, Account.moved]
    rcases ht : (s.accounts.get a).tenancy <;> simp [Account.completeMove]
    · intro tag htag; simp [htag]
  · intro m; rw [hB]; simp only [State.beginInterval, State.meter, Table.get_map, hm]; rw [MeterSlot.atBoundary_eq]; rfl
  · rw [hB, h1]; rfl
  · rw [hB]
  · refine ⟨_, rfl, ?_⟩
    refine ⟨?_, ?_, ?_, ?_, ?_, ?_, ?_, ?_, ?_, ?_, ?_⟩
    iterate 7 rw [h1]; simp [State.fillBank]
    · intro sv; rw [h1]; simp [State.fillBank]
    · intro a; simp only [State.fillBank, Table.get_ofFn]; exact State.bankAccount_congr (by rw [h1]) (by rw [h1]) a
    · intro m; simp only [State.fillBank, Table.get_map, hm, MeterSlot.banked]; rw [MeterSlot.atBoundary_eq]
    · intro m; rw [h1]; simp [State.fillBank, RuntimeLine.banked]
  · rw [hB, h1]; simp [State.beginInterval]

/-- A boundary leaves the ports, the arbiter and the supervisor alone. -/
theorem State.boundary_outside (s : State) :
    s.boundary.ports = s.ports ∧ s.boundary.arbiter = s.arbiter ∧ s.boundary.supervisor = s.supervisor := by
  obtain ⟨h, -⟩ := State.foldl_meterBoundary (List.finRange 64) (List.nodup_finRange 64) s
  have e : s.boundary = { s.metersAtBoundary.beginInterval (nextInterval s.clock.interval) with
    settle := .compute s.metersAtBoundary.fillBank [], stagedClose := false } := rfl
  have h0 : s.metersAtBoundary = (List.finRange 64).foldl State.meterBoundary s := rfl
  rw [← h0] at h
  rw [e, h]
  exact ⟨rfl, rfl, rfl⟩

/-- Everything the alignment boundary does (R32). -/
theorem State.alignmentBoundary_spec (s : State) : s.tookAlignment s.alignmentBoundary := by
  simp only [State.tookAlignment, State.began]
  have hA : ∀ a, s.alignmentBoundary.account a = if a = 0 then { (s.account a).atBoundary 1 with firstInterval := 1 } else (s.account a).atBoundary 1 := by
    intro a
    simp only [State.alignmentBoundary, State.beginInterval, State.setAccount, State.account, Table.get_map]
    rw [Table.get_set]
    split
    · rename_i h; subst h; simp
    · rename_i h; rw [if_neg (fun hh => h hh.symm)]; simp
  refine ⟨⟨?_, ?_, ?_, ?_, ?_, ?_⟩, ?_, ?_, ?_, ?_, ?_⟩
  · rfl
  · rw [← s.settingsStaged_iff]; rfl
  · intro sv; simp [State.alignmentBoundary, State.beginInterval, PlantSlot.emptied, State.setAccount]
  · intro sv; simp [State.alignmentBoundary, State.beginInterval, RuntimeLine.emptied, State.setAccount]
  · intro sv; simp only [State.alignmentBoundary, State.beginInterval, State.setAccount, State.account, Table.get_map]; rfl
  · intro a; rw [hA]
    simp only [Account.atBoundary, Account.applySettings]
    split <;> rcases ht : (s.account a).tenancy <;> simp [Account.completeMove]
  · intro a h0; rw [hA, if_neg h0]
    simp only [Account.atBoundary, Account.applySettings, Account.moved]
    rcases ht : (s.account a).tenancy <;> simp [Account.completeMove]
    · intro tag htag; simp [htag]
  · refine ⟨((s.account 0).atBoundary 1).firstInterval, ?_⟩
    rw [hA, if_pos rfl]
    simp only [Account.atBoundary, Account.applySettings, Account.moved]
    rcases ht : (s.account 0).tenancy <;> simp [Account.completeMove]
    · intro tag htag; simp [htag]
  · rw [hA]; simp
  · intro m; simp [State.alignmentBoundary, State.beginInterval, State.setAccount, State.meter, MeterSlot.emptied]
  · simp [State.alignmentBoundary, State.beginInterval, State.setAccount]

end Sys2Proof.Machine
end

