-- ==== Sys2Proof/Laws/Sums.lean ====
section
/-!
SUPPORT. Sums over the positions of a table.
-/

namespace Sys2Proof

theorem sumOver_congr {n : Nat} {f g : Fin n → Nat} (h : ∀ i, f i = g i) : sumOver n f = sumOver n g := by
  rw [funext h]

theorem sumOver_zero (n : Nat) : sumOver n (fun _ => 0) = 0 := by
  unfold sumOver
  induction List.finRange n with
  | nil => rfl
  | cons i l ih => simp [ih]

theorem sumOver_add (n : Nat) (f g : Fin n → Nat) : sumOver n (fun i => f i + g i) = sumOver n f + sumOver n g := by
  unfold sumOver
  induction List.finRange n with
  | nil => rfl
  | cons i l ih => simp only [List.map_cons, List.sum_cons, ih]; omega

theorem sumOver_mul (n c : Nat) (f : Fin n → Nat) : sumOver n (fun i => c * f i) = c * sumOver n f := by
  unfold sumOver
  induction List.finRange n with
  | nil => rfl
  | cons i l ih => simp only [List.map_cons, List.sum_cons, ih, Nat.mul_add]

theorem sumOver_le (n : Nat) {f g : Fin n → Nat} (h : ∀ i, f i ≤ g i) : sumOver n f ≤ sumOver n g := by
  unfold sumOver
  induction List.finRange n with
  | nil => simp
  | cons i l ih => simp only [List.map_cons, List.sum_cons]; have := h i; omega

/-- A sum of sums in the other order. -/
theorem sumOver_swap (n k : Nat) (f : Fin n → Fin k → Nat) :
    sumOver n (fun i => sumOver k (f i)) = sumOver k (fun j => sumOver n fun i => f i j) := by
  unfold sumOver
  induction List.finRange n with
  | nil => simpa [sumOver] using (sumOver_zero k).symm
  | cons i l ih =>
    simp only [List.map_cons, List.sum_cons, ih]
    exact (sumOver_add k (f i) fun j => (l.map fun i => f i j).sum).symm

/-- A sum in which one position alone counts. -/
theorem sumOver_single (n : Nat) (k : Fin n) (v : Nat) : sumOver n (fun i => if k = i then v else 0) = v := by
  have key : ∀ l : List (Fin n), l.Nodup → (l.map fun i => if k = i then v else 0).sum = if k ∈ l then v else 0 := by
    intro l
    induction l with
    | nil => intro _; simp
    | cons i l ih =>
      intro h
      obtain ⟨hi, hl⟩ := List.nodup_cons.1 h
      rw [List.map_cons, List.sum_cons, ih hl]
      by_cases hk : k = i
      · subst hk; simp [hi]
      · simp [hk]
  have := key (List.finRange n) (List.nodup_finRange n)
  simpa [sumOver] using this

end Sys2Proof
end

