-- ==== Sys2Proof/Laws/Compute.lean ====
section
/-!
SUPPORT. What the parts of COMPUTE's arithmetic answer: where a result stands, the account energy is credited to, an account
service's metered energy as one sum over the slots, and each share as a quotient.
-/

namespace Sys2Proof.Machine

variable (b : Bank) (rs : List (PerService Reading)) (sv : Service) (a : AccountNo)

@[simp] theorem Bank.results_get : ((b.results rs).accounts.get a).get sv = b.serviceResult rs a sv := by
  simp [Bank.results]

@[simp] theorem Bank.results_figures : (b.results rs).figures.get sv = b.figures rs sv := by
  simp [Bank.results]

@[simp] theorem Bank.results_credited : (b.results rs).estimateCredited.get a = b.estimateCredited a := by
  simp [Bank.results]

theorem Bank.standing_iff :
    b.standing a = true ↔ (b.accounts.get a).recorded = .occupied ∨ (b.accounts.get a).recorded = .closing := by
  unfold Bank.standing
  cases (b.accounts.get a).recorded <;> simp

/-- The lower account of an upper account is the odd one before it. -/
theorem lowerOf_eq_some (l : AccountNo) : lowerOf a = some l ↔ l.val % 2 = 1 ∧ a.val = l.val + 1 := by
  unfold lowerOf
  split
  · simp only [Option.some.injEq, Fin.ext_iff]
    omega
  · simp only [reduceCtorEq, false_iff]
    omega

theorem Bank.extendsLower_iff : b.extendsLower a = true ↔
    (b.accounts.get a).recorded = .joined ∧ ∃ l, lowerOf a = some l ∧ b.standing l = true := by
  simp [Bank.extendsLower, Bank.joined, Option.any_eq_true]

/-- The metered energy of an account service is a sum over the slots: its own slot's unless it is estimated, and every
other slot's that gathered for the account. -/
theorem Bank.meteredIn_eq : b.meteredIn sv a = sumOver 64 fun m =>
    if (b.ownSlot sv a = some m ∧ b.kind sv a ≠ .estimated) ∨
        (b.ownSlot sv a ≠ some m ∧ (b.slots.get m).owner = .account a)
      then (b.slots.get m).accumulation.get sv else 0 := by
  have own : (match b.kind sv a with
      | .metered => b.ownEnergy sv a | .estimated => 0 | .redirected => b.ownEnergy sv a) =
      sumOver 64 fun m => if b.ownSlot sv a = some m then
        (if b.kind sv a ≠ .estimated then (b.slots.get m).accumulation.get sv else 0) else 0 := by
    unfold Bank.ownEnergy
    cases h : b.ownSlot sv a with
    | none => simp only [reduceCtorEq, if_false, sumOver_zero]; cases b.kind sv a <;> rfl
    | some k =>
      rw [sumOver_congr (g := fun m => if k = m then
        (if b.kind sv a ≠ .estimated then (b.slots.get k).accumulation.get sv else 0) else 0), sumOver_single]
      · cases b.kind sv a <;> rfl
      · intro m
        by_cases hm : k = m
        · subst hm; simp
        · simp [hm]
  refine (congrArg (· + b.detached sv a) own).trans ?_
  simp only [Bank.detached, ← sumOver_add]
  refine sumOver_congr fun m => ?_
  by_cases h1 : b.ownSlot sv a = some m <;> by_cases h2 : b.kind sv a = .estimated <;>
    by_cases h3 : (b.slots.get m).owner = .account a <;> simp [h1, h2, h3]

/-- The estimated energy of an account service is its own estimate, or none. -/
theorem Bank.estimatedIn_eq :
    b.estimatedIn rs sv a = ((b.serviceResult rs a sv).estimate.map OwnEstimate.energy).getD 0 := by
  unfold Bank.estimatedIn Bank.serviceResult Bank.estimateOf
  cases b.kind sv a <;> simp [Estimate.own]

/-- A pool share is the floor of one quotient, 0 over an empty denominator. -/
theorem Bank.poolShare_eq (p : Pool) : b.poolShare sv p a = b.poolEnergy sv p * b.weight p a / b.weightSum p := by
  unfold Bank.poolShare
  split
  · next h => rw [h, Nat.div_zero]
  · rfl

/-- A loss share is the floor of one quotient, 0 over an empty base. -/
theorem Bank.lossShare_eq : b.lossShare rs sv a = b.lossL rs sv * b.lossPart rs sv a / b.lossBase rs sv := by
  unfold Bank.lossShare
  split
  · next h => rw [h, Nat.div_zero]
  · rfl

end Sys2Proof.Machine
end

