-- ==== Sys2Proof/Laws/FaultTable.lean ====
section
/-!
SUPPORT. What the Fault Table's searches answer: the position of a class and subject, and the sequence number a new entry
takes.
-/

namespace Sys2Proof.Machine

/-- With at most one entry for a class and subject, the search finds it. -/
theorem Faults.find_eq_some {f : Faults} {c : FaultClass} {sub : Subject} {i : Position} {e : FaultEntry} (hu : f.unique)
    (h : f.entries.get i = some e) (hc : e.cls = c) (hs : e.subject = sub) : f.find c sub = some i := by
  simp only [Faults.find]
  cases hf : (List.finRange 32).find? fun i => (f.entries.get i).any fun e => e.isFor c sub with
  | none =>
    rw [List.find?_eq_none] at hf
    have := hf i (List.mem_finRange i)
    simp [h, FaultEntry.isFor, hc, hs] at this
  | some j =>
    have h1 := List.find?_some hf
    simp only [Option.any_eq_true] at h1
    obtain ⟨y, hy, h2⟩ := h1
    simp only [FaultEntry.isFor, Bool.and_eq_true, decide_eq_true_eq] at h2
    rw [hu j i y e hy h (h2.1.trans hc.symm) (h2.2.trans hs.symm)]

/-- Without an entry for a class and subject, the search finds none. -/
theorem Faults.find_eq_none {f : Faults} {c : FaultClass} {sub : Subject}
    (h : ∀ i e, f.entries.get i = some e → ¬ (e.cls = c ∧ e.subject = sub)) : f.find c sub = none := by
  simp only [Faults.find, List.find?_eq_none]
  intro i _
  simp only [Option.any_eq_true, not_exists, not_and]
  intro e he hh
  simp only [FaultEntry.isFor, Bool.and_eq_true, decide_eq_true_eq] at hh
  exact h i e he hh

/-- The sequence number found is the first from `n` on that no entry holds, where the fuel reaches it. -/
theorem Faults.freshSeq_eq {f : Faults} {k : Nat} (hk : k < 65536) (hfree : f.holdsSeq k = false) :
    ∀ fuel n, n < 65536 → (k + 65536 - n) % 65536 ≤ fuel →
      (∀ j, j < 65536 → (j + 65536 - n) % 65536 < (k + 65536 - n) % 65536 → f.holdsSeq j = true) →
      f.freshSeq fuel n = k := by
  intro fuel
  induction fuel with
  | zero =>
    intro n h1 h2 _
    simp only [Faults.freshSeq]
    omega
  | succ m ih =>
    intro n h1 h2 h3
    simp only [Faults.freshSeq]
    by_cases hkn : k = n
    · subst hkn
      simp [hfree]
    · simp only [h3 n h1 (by omega), if_true]
      refine ih _ (Nat.mod_lt _ (by omega)) (by omega) fun j h4 h5 => ?_
      by_cases h6 : j = n
      · subst h6
        exact h3 j h4 (by omega)
      · exact h3 j h4 (by omega)

end Sys2Proof.Machine
end

