-- ==== Sys2Proof/Laws/Post.lean ====
section
/-!
SUPPORT. What the parts of one account's post leave of the state: each raises its faults, and a trip makes its slot SUSPECT.
-/

namespace Sys2Proof.Machine

/-- The NO-BASIS raise touches the Fault Table alone. -/
theorem State.raiseNoBasis_eq (s : State) (b : Bank) (a : AccountNo) (x : ServiceResult) :
    s.raiseNoBasis b a x =
      { s with faults := if x.noBasis then s.faults.raise .noBasis (.account a) b.interval else s.faults } := by
  simp only [State.raiseNoBasis, State.raise]
  split <;> rfl

/-- The ACCUM-SATURATED raise touches the Fault Table alone. -/
theorem State.raiseSaturated_eq (s : State) (b : Bank) (a : AccountNo) (stopped : Bool) :
    s.raiseSaturated b a stopped =
      { s with faults := if stopped then s.faults.raise .accumSaturated (.account a) b.interval else s.faults } := by
  simp only [State.raiseSaturated, State.raise]
  split <;> rfl

/-- The balance raise touches the Fault Table alone. -/
theorem State.raiseBalance_eq (s : State) (b : Bank) (sv : Service) (x : Figures) :
    s.raiseBalance b sv x = { s with faults := s.faults.balanced sv x.fault b.interval } := by
  simp only [State.raiseBalance, State.raise, Faults.balanced]
  cases x.fault with
  | none => rfl
  | some v => cases v <;> rfl

/-- A trip of a LIVE slot that still holds the position. -/
theorem State.tripSlot_of_live {s : State} {b : Bank} {a : AccountNo} {sv : Service} {x : ServiceResult} {m : SlotNo}
    (ht : x.trip = some m) (hl : (s.meter m).state = .live) (hp : (s.account a).meterPos.get sv = some m) :
    s.tripSlot b a sv x = { s with
      meters := s.meters.set m { s.meter m with state := .suspect }
      faults := (s.faults.raise .meterNoAdvance (.meter m) b.interval).raise .meterSuspect (.meter m) b.interval } := by
  have hl' : (((s.raise .meterNoAdvance (.meter m) b.interval)).meter m).state = .live := hl
  have hp' : (((s.raise .meterNoAdvance (.meter m) b.interval)).account a).meterPos.get sv = some m := hp
  simp only [State.tripSlot, ht, hl', hp', and_self, if_true, State.makeSuspect]
  rfl

/-- Any other trip raises its event alone. -/
theorem State.tripSlot_of_not_live {s : State} {b : Bank} {a : AccountNo} {sv : Service} {x : ServiceResult} {m : SlotNo}
    (ht : x.trip = some m) (h : ¬ ((s.meter m).state = .live ∧ (s.account a).meterPos.get sv = some m)) :
    s.tripSlot b a sv x = { s with faults := s.faults.raise .meterNoAdvance (.meter m) b.interval } := by
  have h' : ¬ (((s.raise .meterNoAdvance (.meter m) b.interval).meter m).state = .live ∧
      ((s.raise .meterNoAdvance (.meter m) b.interval).account a).meterPos.get sv = some m) := h
  simp only [State.tripSlot, ht, if_neg h']
  rfl

/-- Without a trip nothing happens. -/
theorem State.tripSlot_none {s : State} {b : Bank} {a : AccountNo} {sv : Service} {x : ServiceResult}
    (ht : x.trip = none) : s.tripSlot b a sv x = s := by
  simp [State.tripSlot, ht]

/-- All a trip can do: the slot SUSPECT where R77 says so, and its faults. -/
theorem State.tripSlot_eq (s : State) (b : Bank) (a : AccountNo) (sv : Service) (x : PerService ServiceResult) :
    s.tripSlot b a sv (x.get sv) = { s with
      meters := Table.ofFn fun m => if s.trips x a sv m then { s.meter m with state := .suspect } else s.meter m
      faults := s.faults.tripped (x.get sv).trip (s.trips x a sv) b.interval } := by
  have same : (Table.ofFn fun m => s.meter m) = s.meters := Table.ext_get (by simp [State.meter])
  cases ht : (x.get sv).trip with
  | none =>
    rw [State.tripSlot_none ht]
    simp [Faults.tripped, State.trips, ht, same]
  | some m =>
    by_cases hc : (s.meter m).state = .live ∧ (s.account a).meterPos.get sv = some m
    · rw [State.tripSlot_of_live ht hc.1 hc.2]
      have h1 : s.trips x a sv m = true := by simp [State.trips, ht, hc]
      simp only [Faults.tripped, h1, if_true]
      congr 1
      apply Table.ext_get
      intro k
      rw [Table.get_set, Table.get_ofFn]
      by_cases hk : m = k
      · subst hk
        simp [h1]
      · have : s.trips x a sv k = false := by simp [State.trips, ht, hk]
        simp [hk, this, State.meter]
    · rw [State.tripSlot_of_not_live ht hc]
      have h1 : ∀ k, s.trips x a sv k = false := by
        intro k
        by_cases hk : m = k
        · subst hk
          simp only [State.trips, ht]
          simpa using hc
        · simp [State.trips, ht, hk]
      simp [Faults.tripped, h1, same]

/-- The post's test holds exactly when some total would pass its maximum. -/
theorem Totals.stops_iff (t : Totals) (band : Band) (x : PerService ServiceResult) :
    t.stops band x = true ↔ t.overflows band x := by
  simp only [Totals.stops, EnergyTotals.stops, Totals.overflows, Bool.or_eq_true, decide_eq_true_eq]
  constructor
  · rintro (((h | h) | h) | h)
    · exact ⟨.heating, by simp only [PerService.get, Config.energyTotalMax] at h ⊢; omega⟩
    · exact ⟨.cooling, by simp only [PerService.get, Config.energyTotalMax] at h ⊢; omega⟩
    · exact ⟨.heating, by simp only [PerService.get, Config.costTotalMax] at h ⊢; omega⟩
    · exact ⟨.cooling, by simp only [PerService.get, Config.costTotalMax] at h ⊢; omega⟩
  · rintro ⟨sv, h⟩
    cases sv <;> simp only [PerService.get, Config.energyTotalMax, Config.costTotalMax] at h ⊢ <;> omega

end Sys2Proof.Machine
end

