-- ==== Sys2Proof/Laws/Requests.lean ====
section
/-!
SUPPORT. What a grant, a request and an operation can do, said once: later proofs cite these and never unfold the
arbiter or the request path.
-/

namespace Sys2Proof.Machine

variable {s : State} {p : Port} {frame : List Byte} {work : State → Answer}

@[simp] theorem State.port_setPort_self (s : State) (p : Port) (q : PortState) : (s.setPort p q).port p = q := by
  simp [State.port]

@[simp] theorem State.port_setPort_other (s : State) (p : Port) (q : PortState) :
    (s.setPort p q).port p.other = s.port p.other := by
  simp [State.port]

/-! ## Who waits -/

theorem State.waiting_congr {s t : State} (hs : t.supervisor = s.supervisor) (hp : t.ports = s.ports) (q : Port) :
    t.waiting (.port q) = s.waiting (.port q) := by
  simp [State.waiting, State.interfacesRun, State.requestWaiting, State.port, hs, hp]

/-- Whether a port waits depends on its own record and the supervisor alone. -/
theorem State.waiting_port_congr {s t : State} {q : Port} (hs : t.supervisor = s.supervisor)
    (hp : t.port q = s.port q) : t.waiting (.port q) = s.waiting (.port q) := by
  simp [State.waiting, State.interfacesRun, State.requestWaiting, hs, hp]

/-! ## A request granted now -/

theorem State.grantsRequest_iff : s.grantsRequest p frame = true ↔
    (s.intake p frame = .held ∨ s.intake p frame = .taken) ∧ ownerAllows p frame = true ∧
    (s.arrived p frame).nextGrant = some (.port p) := by
  simp [State.grantsRequest, and_assoc]

/-- A request that is granted now is carried out whole, and its grant ends with its reply. -/
theorem State.serve_of_grantsRequest (h : s.grantsRequest p frame = true) :
    s.serve p frame work = (work (s.started p frame)).close p := by
  obtain ⟨hi, ho, hg⟩ := State.grantsRequest_iff.1 h
  rcases hi with hi | hi
  · have hg' : s.nextGrant = some (.port p) := by simpa [State.arrived, hi] using hg
    simp [State.serve, hi, ho, hg']
  · simp [State.serve, hi, ho, hg]

/-- What is in the slot when a request starts. -/
theorem State.started_port (h : s.grantsRequest p frame = true) :
    (s.started p frame).port p =
      { s.port p with
        slot := .request frame
        reply := if (s.port p).slot = .empty then .pending else (s.port p).reply
        stream := if (s.port p).slot = .empty then none else (s.port p).stream
        framePending := false } := by
  obtain ⟨hi, -, -⟩ := State.grantsRequest_iff.1 h
  rcases hi with hi | hi
  · have hslot : (s.port p).slot = .request frame := by
      simp only [State.intake] at hi
      split at hi
      · cases hi
      · split at hi
        · assumption
        · split at hi
          · cases hi
          · split at hi <;> cases hi
    have hne : (s.port p).slot ≠ .empty := by rw [hslot]; exact fun e => by cases e
    simp only [State.started, State.openGrant, State.arrived, hi, State.carriedRaises, State.beginGrant, hne, if_false]
    cases hf : (s.port p).framePending
    · have : (s.ports.get p).framePending = false := hf
      simp [State.port, this]
      rw [show s.ports.get p = s.port p from rfl]
      rcases hq : s.port p with ⟨⟩
      simp_all
    · have : (s.ports.get p).framePending = true := hf
      simp [State.port, this]
      exact hslot
  · have hslot : (s.port p).slot = .empty := by
      simp only [State.intake] at hi
      split at hi
      · cases hi
      · split at hi
        · cases hi
        · split at hi
          · cases hi
          · split at hi
            · assumption
            · cases hi
    simp only [State.started, State.openGrant, State.arrived, hi, State.carriedRaises, State.beginGrant, hslot, if_true]
    cases hf : (s.port p).framePending
    · have : (s.ports.get p).framePending = false := hf
      simp [State.port, State.takeRequest, State.setPort, this]
    · have : (s.ports.get p).framePending = true := hf
      simp [State.port, State.takeRequest, State.setPort, State.raise, this]

/-- A request that starts has changed its port, the arbiter and, by the raise its grant carries, the Fault Table; nothing
else. -/
theorem State.started_eq (h : s.grantsRequest p frame = true) :
    s.started p frame =
      { s with
        ports := s.ports.set p ((s.started p frame).port p)
        faults := s.faultsAt p
        arbiter := (s.started p frame).arbiter } := by
  obtain ⟨hi, -, -⟩ := State.grantsRequest_iff.1 h
  rcases hi with hi | hi
  · simp only [State.started, State.openGrant, State.arrived, hi, State.carriedRaises, State.beginGrant, State.faultsAt]
    cases hf : (s.port p).framePending
    · have : (s.ports.get p).framePending = false := hf
      simp [State.port, this]
    · have : (s.ports.get p).framePending = true := hf
      simp [State.port, State.setPort, State.raise, this]
  · simp only [State.started, State.openGrant, State.arrived, hi, State.carriedRaises, State.beginGrant, State.faultsAt]
    cases hf : (s.port p).framePending
    · have : (s.ports.get p).framePending = false := hf
      simp [State.port, State.takeRequest, State.setPort, this]
    · have : (s.ports.get p).framePending = true := hf
      simp [State.port, State.takeRequest, State.setPort, State.raise, this]

/-- What a request's work finds: every field but the ports, the arbiter and the Fault Table is as it was. -/
theorem State.started_fields (h : s.grantsRequest p frame = true) :
    (s.started p frame).accounts = s.accounts ∧ (s.started p frame).joinedNote = s.joinedNote ∧
    (s.started p frame).meters = s.meters ∧ (s.started p frame).pools = s.pools ∧
    (s.started p frame).plant = s.plant ∧ (s.started p frame).lines = s.lines ∧
    (s.started p frame).noAdvance = s.noAdvance ∧ (s.started p frame).lineRate = s.lineRate ∧
    (s.started p frame).clock = s.clock ∧ (s.started p frame).settle = s.settle ∧
    (s.started p frame).period = s.period ∧ (s.started p frame).stagedClose = s.stagedClose ∧
    (s.started p frame).queue = s.queue ∧ (s.started p frame).ring = s.ring ∧
    (s.started p frame).faults = s.faultsAt p ∧ (s.started p frame).receiver = s.receiver ∧
    (s.started p frame).capture = s.capture ∧ (s.started p frame).overruns = s.overruns ∧
    (s.started p frame).supervisor = s.supervisor ∧ (s.started p frame).linePins = s.linePins ∧
    (s.started p frame).freeSeq = s.freeSeq ∧ (s.started p frame).pending = s.pending := by
  rw [State.started_eq h]; simp

/-- The yield set loses the port that is granted. -/
theorem State.started_yieldSet (h : s.grantsRequest p frame = true) :
    (s.started p frame).arbiter.yieldSet = s.arbiter.yieldSet.filter fun q => decide (q ≠ .port p) := by
  obtain ⟨hi, -, -⟩ := State.grantsRequest_iff.1 h
  have hc : ∀ t : State, (t.carriedRaises (.port p)).arbiter = t.arbiter := by
    intro t; simp only [State.carriedRaises]; split <;> rfl
  rcases hi with hi | hi
  · simp [State.started, State.openGrant, State.arrived, hi, hc, State.beginGrant]
  · simp only [State.started, State.openGrant, State.arrived, hi, hc, State.beginGrant]
    rfl

/-- A request's grant ends: only its port and the arbiter change. -/
theorem Answer.close_eq (a : Answer) (p : Port) :
    a.close p =
      { a.state with
        ports := a.state.ports.set p { a.state.port p with slot := .empty, reply := .ready a.result a.data false }
        arbiter := { a.state.arbiter with
          granted := none
          turn := if a.state.waiting (.port p.other) then some p.other else none } } := by
  have hw : (a.state.complete p a.result a.data).waiting (.port p.other) = a.state.waiting (.port p.other) :=
    State.waiting_port_congr rfl (by simp [State.complete])
  simp [Answer.close, State.endGrant, hw]
  simp [State.complete, State.setPort]

/-- The whole outcome of a request granted now whose work leaves the ports, the arbiter and the supervisor as it found
them: what the work wrote, the port's reply, and the arbiter FREE. -/
theorem State.close_of_started (h : s.grantsRequest p frame = true) (a : Answer)
    (hp : a.state.ports = (s.started p frame).ports) (ha : a.state.arbiter = (s.started p frame).arbiter)
    (hs : a.state.supervisor = s.supervisor) :
    a.close p =
      { a.state with ports := s.ports.set p (s.answered p a.result a.data), arbiter := s.arbiterAfter p } := by
  have hport : a.state.port p = (s.started p frame).port p := by simp [State.port, hp]
  have hother : a.state.port p.other = s.port p.other := by
    have := congrArg State.ports (State.started_eq h)
    simp only [] at this
    rw [State.port, hp, this]; simp [State.port]
  have hw : a.state.waiting (.port p.other) = s.waiting (.port p.other) := State.waiting_port_congr hs hother
  have hports : a.state.ports = s.ports.set p ((s.started p frame).port p) := by
    rw [hp]; exact congrArg State.ports (State.started_eq h)
  rw [Answer.close_eq, hw, hport, State.started_port h, hports, State.started_port h, ha]
  simp [State.answered, State.arbiterAfter, State.started_yieldSet h]

/-- What a granted request leaves, from its work on the state with the port's PORT-FRAME raise made: the work's state with
the port answered and the arbiter after the grant. The work must leave the ports, the arbiter and the supervisor as it
finds them, which every request but SET ATN ENABLES and STREAM ACCOUNTS does. -/
theorem State.serve_eq {u : State} (h : s.grantsRequest p frame = true)
    (H : ∀ ports arbiter, ∀ a : Answer,
      work { s with faults := s.faultsAt p, ports := ports, arbiter := arbiter } = a →
      a.state.ports = ports ∧ a.state.arbiter = arbiter ∧ a.state.supervisor = s.supervisor ∧
      { a.state with ports := s.ports.set p (s.answered p a.result a.data), arbiter := s.arbiterAfter p } = u) :
    s.serve p frame work = u := by
  rw [State.serve_of_grantsRequest h]
  have hg := State.started_eq h
  obtain ⟨h1, h2, h3, h4⟩ := H _ _ (work (s.started p frame)) (congrArg work hg.symm)
  rw [State.close_of_started h _ (h1.trans (congrArg State.ports hg).symm) (h2.trans (congrArg State.arbiter hg).symm) h3, h4]

end Sys2Proof.Machine
end

