-- ==== Sys2Proof/WellFormed.lean ====
section
/-!
DEFINITION. Which command terms name something the part has.

Request fields are bytes, and every byte sequence of the right length is a good frame (R171), so a request term
is never ill-formed: an index out of range is refused by the request itself, with BAD-INDEX. The one operand
that is not a field of a frame is the slot of APPLY_HELD_DELTAS, which names one of the 64 meter slots.
-/

namespace Sys2Proof

/-- The number of meter slots (R44). -/
def meterSlots : Nat := 64

/-- The command names only things the part has. -/
def Instr.wf : Instr → Bool
  | .applyHeldDeltas slot => decide (slot < meterSlots)
  | _ => true

end Sys2Proof
end

