-- ==== Sys2Proof/Tests/Slice0.lean ====
section
/-!
SUPPORT. Tests: the well-formedness smoke, frames written out from section 12.4, figures of the spec's worked examples,
and for every statement that has hypotheses a state and operands that meet them.
-/

namespace Sys2Proof.Tests

open Sys2Proof Sys2Proof.Machine

/-! ## Well-formedness and the table's bits -/

/-- R44: the slots are 0 to 63. -/
theorem test_wf_refuses_slot_64 : (Instr.applyHeldDeltas 64).wf = false := by decide

theorem test_wf_takes_slot_63 : (Instr.applyHeldDeltas 63).wf = true := by decide

/-- The opcode table gives no row any bits. -/
theorem test_table_word : decodeTableWord 8 0x1C = none := by decide

/-! ## Frames, byte for byte from section 12.4 -/

/-- 0x10: slot, address, service, scale, spike limit (4), late limit. -/
theorem test_frame_configure_meter :
    decodeFrame .plant 0#16 [0x10#8, 3#8, 42#8, 2#8, 1#8, 0x00#8, 0x00#8, 0x27#8, 0x10#8, 4#8] =
      some (.configureMeter .plant 3#8 42#8 2#8 1#8 10000#32 4#8) := by decide

/-- 0x13: service, count (4). -/
theorem test_frame_post_plant_reading :
    decodeFrame .plant 0#16 [0x13#8, 1#8, 0x00#8, 0x01#8, 0x00#8, 0x02#8] =
      some (.postPlantReading .plant 1#8 65538#32) := by decide

/-- 0x17: open_min (2), advance_min (2), window. -/
theorem test_frame_set_no_advance :
    decodeFrame .plant 0#16 [0x17#8, 0x01#8, 0x2C#8, 0x00#8, 0x64#8, 3#8] =
      some (.setNoAdvance .plant 300#16 100#16 3#8) := by decide

theorem test_frame_mark : decodeFrame .plant 0#16 [0x1C#8] = some (.mark .plant) := by decide

/-- 0x20: account, tag (4). -/
theorem test_frame_move_in :
    decodeFrame .billing 0#16 [0x20#8, 7#8, 0x12#8, 0x34#8, 0x56#8, 0x78#8] =
      some (.moveIn .billing 7#8 0x12345678#32) := by decide

/-- 0x25: account, then HEATING basis, power (2), line, COOLING basis, power (2), line, retail weight (2), office weight
(2), loss-share flag. -/
theorem test_frame_set_account :
    decodeFrame .billing 0#16
      [0x25#8, 31#8, 1#8, 0x0B#8, 0xB8#8, 6#8, 1#8, 0x17#8, 0x70#8, 5#8, 0x00#8, 0x23#8, 0x00#8, 0x00#8, 1#8] =
      some (.setAccount .billing 31#8
        { basis := ⟨1#8, 1#8⟩, power := ⟨3000#16, 6000#16⟩, line := ⟨6#8, 5#8⟩, retailWeight := 35#16
          officeWeight := 0#16, lossShare := 1#8 }) := by decide

/-- 0x32: selection (4), overflow-clear flag. -/
theorem test_frame_ack_notices :
    decodeFrame .billing 0#16 [0x32#8, 0x00#8, 0x00#8, 0x00#8, 0x05#8, 1#8] =
      some (.ackNotices .billing 5#32 1#8) := by decide

theorem test_frame_read_runtime :
    decodeFrame .billing 0x00FF#16 [0x46#8] = some (.readRuntime .billing 0x00FF#16) := by decide

/-- R171: a body one byte short or long, and a code that is not defined, are no good frames. -/
theorem test_frame_errors :
    goodFrame [0x1C#8, 0#8] = false ∧ goodFrame [0x11#8] = false ∧ goodFrame [0x1D#8] = false ∧
    goodFrame [0x01#8] = false ∧ goodFrame [] = false := by decide

/-! ## Record lengths of section 12.5 -/

theorem test_record_lengths :
    (Account.bytes 7 Account.initial).length = 196 ∧ (State.reset.meterBytes 0).length = 42 ∧
    State.reset.faults.mapBytes.length = 32 ∧ (State.reset.extendedBytes .plant).length = 16 ∧
    State.reset.runtimeBytes.length = 69 ∧ (PlantSlot.initial).bytes.length = 11 := by decide +kernel

/-! ## The spec's figures -/

/-- R70: 725 open seconds at 6,000 W with a carry of 1,800 W·s. -/
theorem test_runtime_estimate :
    runtimeEstimate 725 6000 1800 = { kind := .runtime, energy := 1208, carry := 3000, noBasis := false } := by decide

/-- R71: 11,945 divided by 4, and 6,050 by 2. -/
theorem test_history_mean : historyMean [3100, 2950, 3020, 2875] = 2986 ∧ historyMean [3100, 2950] = 3025 := by decide

/-- R46, and the wrapped reading of section 3.7: a wrap is an advance, and 2^31 counts or more are a rollback. -/
theorem test_wrap_and_rollback :
    deltaOf .x10 200000 4294967000#32 560#32 = .advance 8560 ∧ deltaOf .x1 0 0#32 2147483648#32 = .rollback ∧
    deltaOf .x1000 0 0#32 268436#32 = .spike ∧ deltaOf .x1000 0 0#32 268435#32 = .advance 268435000 := by decide

/-- R33: 4,294,967,295 is followed by 1. -/
theorem test_interval_wraps : nextInterval 4294967295 = 1 ∧ nextInterval 811 = 812 := by decide

/-- R6: an upper account joined since the boundary is recorded VACANT, one split since it JOINED. -/
theorem test_recorded_pairs :
    let joined := State.reset.setAccount 2 { State.reset.account 2 with tenancy := .joined }
    let noted := { State.reset with joinedNote := State.reset.joinedNote.set 2 true }
    joined.recorded 2 = .vacant ∧ noted.recorded 2 = .joined ∧ State.reset.recorded 0 = .occupied := by decide

/-- The accounts of section 6.7 that differ from a VACANT one. -/
def account812 (a : AccountNo) : BankAccount :=
  let plain : Settings := { basis := ⟨.metered, .metered⟩, power := ⟨0, 0⟩, line := ⟨none, none⟩, retailWeight := 0
                            officeWeight := 0, lossShare := false }
  if a = 0 then { recorded := .occupied, settings := plain, meterPos := ⟨some 2, some 2⟩ }
  else if a = 5 then
    { recorded := .occupied, settings := { plain with retailWeight := 420, lossShare := true }
      meterPos := ⟨some 11, some 11⟩ }
  else if a = 8 then { recorded := .vacant, settings := { plain with retailWeight := 260 }, meterPos := ⟨none, none⟩ }
  else if a = 14 then
    { recorded := .occupied, settings := { plain with officeWeight := 1200, lossShare := true }
      meterPos := ⟨some 20, some 20⟩ }
  else if a = 31 then
    { recorded := .occupied
      settings := { basis := ⟨.runtime, .runtime⟩, power := ⟨3000, 6000⟩, line := ⟨some 6, some 5⟩, retailWeight := 35
                    officeWeight := 0, lossShare := true }
      meterPos := ⟨none, none⟩ }
  else { recorded := .vacant, settings := plain, meterPos := ⟨none, none⟩ }

/-- The slots of section 6.7. -/
def slot812 (m : SlotNo) : BankSlot :=
  let live := fun (n : Nat) (g : Target) => ({ state := .live, accumulation := ⟨0, n⟩, owner := g } : BankSlot)
  if m = 2 then live 0 (.account 0) else if m = 11 then live 70000 (.account 5)
  else if m = 20 then live 90000 (.account 14) else if m = 40 then live 28000 (.pool .retail)
  else if m = 41 then live 12000 (.pool .retail) else if m = 44 then live 15000 (.pool .office)
  else { state := .off, accumulation := ⟨0, 0⟩, owner := .unassigned }

/-- The bank of interval 812 in section 6.7, with a COOLING plant delta. -/
def bank812 (delta : Nat) : Bank :=
  { interval := 812, band := .b2, prices := ⟨⟨0, 0, 95, 0⟩, ⟨0, 0, 180, 0⟩⟩, tolerance := 50
    noAdvance := { openMin := 300, advanceMin := 100, window := 3 }
    flags := { stretched := false, interrupted := false, tickLoss := false, settingsApplied := false }
    periodEnd := false, plant := ⟨⟨0, true⟩, ⟨delta, true⟩⟩
    accounts := Table.ofFn account812, slots := Table.ofFn slot812
    lines := Table.ofFn fun l => if l = 5 then some 725 else if l = 6 then some 0 else none }

/-- Account 31's COOLING carry is 1,800 W·s, everything else read is 0. -/
def readings812 : List (PerService Reading) :=
  (List.finRange 48).map fun a => if a = 31 then ⟨⟨0, [], 0⟩, ⟨1800, [], 0⟩⟩ else ⟨⟨0, [], 0⟩, ⟨0, [], 0⟩⟩

/-- Section 6.7: the COOLING allocations of interval 812 and the cost of account 14. -/
theorem test_interval_812 :
    let x := fun a => (bank812 250000).serviceResult readings812 a .cooling
    (x 0).allocation = 14547 ∧ (x 5).allocation = 108169 ∧ (x 8).allocation = 0 ∧ (x 14).cost = 22295700 ∧
    (x 31).allocation = 3419 ∧ (x 31).newCarry = 3000 ∧ (x 31).estimate = some ⟨.runtime, 1208⟩ := by decide +kernel

/-- Section 6.7: the same interval with a low plant reading has an excess of 6,208 Wh, within the tolerance. -/
theorem test_interval_812_low :
    let f := (bank812 210000).figures readings812 .cooling
    f.loss = 0 ∧ f.excess = 6208 ∧ f.fault = none := by decide +kernel

/-! ## Witnesses: for every statement with hypotheses, states and operands that meet them, clause by clause -/

theorem granted {c : Instr} {p : Port} {s : State} (hp : c.port = some p)
    (h : s.grantsRequest p c.requestBytes = true) : s.grants c := by
  unfold State.grants; rw [hp]; exact h

/-- RUNNING in interval 5, 700 seconds into a length of 15 minutes. -/
def running : State := { State.reset with clock := { State.reset.clock with store := .running, interval := 5, elapsed := 700 } }

/-- The bank of interval 4 with a close, account 1 recorded CLOSING and account 0 OCCUPIED. -/
def bank4 : Bank :=
  { State.reset.fillBank with
    interval := 4, periodEnd := true
    accounts := State.reset.fillBank.accounts.set 1
      { recorded := .closing, settings := Account.initial.inForce, meterPos := ⟨none, none⟩ } }

/-- A settle in flight. -/
def settling (x : Settle) : State := { running with settle := x }

/-- One second short of the limit. -/
def nearLimit (s : State) : State := { s with clock := { s.clock with elapsed := 899 } }

/-- The elapsed count held at the limit by a deferral. -/
def deferred (s : State) : State := { s with clock := { s.clock with elapsed := 900, deferred := true } }

/-- A port in another state. -/
def withPort (s : State) (p : Port) (f : PortState → PortState) : State := s.setPort p (f (s.port p))

/-- A request taken earlier and a member of the yield set. -/
def inTurn (s : State) (p : Port) (c : Instr) : State :=
  let t := withPort s p fun q => { q with slot := .request c.requestBytes, reply := .pending }
  { t with arbiter := { t.arbiter with yieldSet := [.port p] } }

/-- An account in a tenancy state. -/
def withTenancy (s : State) (a : AccountNo) (x : Tenancy) : State := s.setAccount a { s.account a with tenancy := x }

/-- A slot in another state. -/
def withMeter (s : State) (m : SlotNo) (f : MeterSlot → MeterSlot) : State := s.setMeter m (f (s.meter m))

/-- A plant slot in another state. -/
def withPlant (s : State) (sv : Service) (f : PlantSlot → PlantSlot) : State := s.setPlant sv (f (s.plant.get sv))

/-- VMAIN below its threshold. -/
def inHold : State := { State.reset with supervisor := { State.reset.supervisor with supply := .hold, main := .belowHold } }

/-- A statement of an account. -/
def statementOf (a : AccountNo) (k : StatementKind) : Statement := Account.initial.statement a k 1 4

theorem witness_StepTakesFrontCommand :
    ({ State.reset with pending := [.timerExpiry] } : State).pending = .timerExpiry :: [] ∧
    State.reset.pending = [] := ⟨rfl, rfl⟩

theorem witness_CommandsLeaveTheQueue : ∃ t, exec .vmainRise State.reset = .next t := ⟨_, rfl⟩

theorem witness_RequestsTurnedAway :
    let c := Instr.readClock .plant
    let held := withPort (deferred running) .plant fun q => { q with slot := .request c.requestBytes, reply := .pending }
    let busy := withPort State.reset .plant fun q => { q with slot := .request [0x1C#8], reply := .pending }
    c.port = some .plant ∧ c.requestBytes ≠ [] ∧ ownerAllows .plant c.requestBytes = true ∧
    inHold.intake .plant c.requestBytes = .shut ∧ busy.intake .plant c.requestBytes = .rejected ∧
    held.intake .plant c.requestBytes = .held ∧ held.nextGrant ≠ some (.port .plant) ∧
    (settling (.compute bank4 [])).intake .plant c.requestBytes = .taken ∧
    ((settling (.compute bank4 [])).arrived .plant c.requestBytes).nextGrant ≠ some (.port .plant) := by decide

theorem witness_NotOwnerRefusal :
    let c := Instr.mark .billing
    c.port = some .billing ∧ c.requestBytes ≠ [] ∧ ownerAllows .billing c.requestBytes = false ∧
    c.owner = some Port.billing.other ∧
    State.reset.intake .billing c.requestBytes = .taken ∧
    (withPort State.reset .billing fun q => { q with slot := .request [0x1C#8] }).intake .billing c.requestBytes =
      .held := by decide

theorem witness_BadOperandRefusals :
    ((Instr.retireMeter .plant 64#8).port = some .plant ∧
      (Instr.retireMeter .plant 64#8).badOperand = some .badIndex ∧ State.reset.grants (.retireMeter .plant 64#8)) ∧
    ((Instr.setBand .plant 4#8).port = some .plant ∧ (Instr.setBand .plant 4#8).badOperand = some .badValue ∧
      State.reset.grants (.setBand .plant 4#8)) :=
  ⟨⟨rfl, by decide, granted (p := .plant) rfl (by decide)⟩, ⟨rfl, by decide, granted (p := .plant) rfl (by decide)⟩⟩

theorem witness_BusyRefusals :
    let s := fun p c => inTurn (settling (.compute bank4 [])) p c
    (∀ p c, (s p c).settleInFlight = true ∧ (s p c).clock.store = .running) ∧
    (s .plant (.mark .plant)).grants (.mark .plant) ∧
    (s .plant (.reReferenceMeter .plant 63#8)).grants (.reReferenceMeter .plant 63#8) ∧
    (s .billing (.joinPair .billing 45#8)).grants (.joinPair .billing 45#8) ∧
    (s .billing (.splitPair .billing 1#8)).grants (.splitPair .billing 1#8) ∧
    (s .billing (.initialiseAccounts .billing)).grants (.initialiseAccounts .billing) :=
  ⟨fun _ _ => ⟨rfl, rfl⟩, granted (p := .plant) rfl (by decide), granted (p := .plant) rfl (by decide),
    granted (p := .billing) rfl (by decide), granted (p := .billing) rfl (by decide),
    granted (p := .billing) rfl (by decide)⟩

/-- Port 0's chip-select low with a transaction open. -/
def open' (x : Transaction) : State :=
  withPort State.reset .plant fun q => { q with selected := true, transaction := x }

theorem witness_TransactionStartLatches :
    State.reset.interfacesRun = true ∧ (State.reset.port .plant).selected = false ∧ inHold.interfacesRun = false ∧
    (inHold.port .plant).selected = false ∧ ((open' .code).port .plant).selected = true := by decide

theorem witness_TransactionEndJudges :
    (open' .code).interfacesRun = true ∧ ((open' .code).port .plant).selected = true ∧
    ((open' .code).port .plant).transaction = .code ∧ ((open' .body).port .plant).transaction = .body ∧
    ((open' .lockedOut).port .plant).transaction = .lockedOut ∧
    (0x1C#8 : Byte) ≠ statusCode ∧ (0x1C#8 : Byte) ≠ fetchCode ∧
    bodyLength 0x1C#8 = some ([] : List Byte).length ∧ ((open' .code).port .plant).slot = .empty ∧
    ((withPort (open' .code) .plant fun q => { q with slot := .preparing }).port .plant).slot ≠ .empty ∧
    bodyLength 0x1C#8 ≠ some [0#8].length := by decide

theorem witness_TransactionEndServes :
    (∃ t, exec (.status .plant [0#8].length) (open' .code) = .next t) ∧
    (∃ t, exec (.fetch .plant [0#8].length) (open' .code) = .next t) ∧
    (∃ t, exec (.status .plant [0#8].length) (open' (.shiftOut (.status false) [1#8])) = .next t) ∧
    (∃ t, exec (.fetch .plant [0#8].length) (open' (.shiftOut (.fetch true) [1#8])) = .next t) ∧
    (State.reset.port .plant).selected = false ∧
    ({ inHold with ports := (open' .code).ports } : State).interfacesRun = false :=
  ⟨⟨_, rfl⟩, ⟨_, rfl⟩, ⟨_, rfl⟩, ⟨_, rfl⟩, rfl, rfl⟩

/-- R174: a SETTLED flag set after a copy that reported it clear survives the sixteenth byte. -/
theorem test_settled_survives_status :
    let s := withPort (open' (.shiftOut (.status false) [0#8])) .plant fun q => { q with settled := true }
    ((s.clockStatus .plant 1).port .plant).settled = true := by decide

theorem witness_PortFrameRaiseRaises :
    let s := withPort State.reset .billing fun q => { q with framePending := true }
    (s.port .billing).framePending = true ∧ s.requestWaiting .billing = false ∧
    s.nextGrant = some (.port .billing) := by decide

theorem witness_StatusShiftsAndClears :
    (open' .code).interfacesRun = true ∧ ((open' .code).port .plant).transaction = .code ∧
    ((open' (.shiftOut (.status true) [0#8])).port .plant).transaction = .shiftOut (.status true) [0#8] ∧
    inHold.interfacesRun = false := by decide

theorem witness_FetchReturnsReply :
    let s := fun (x : Option Stream) => withPort (open' .code) .plant fun q =>
      { q with reply := .ready .ok [7#8] false, stream := x }
    (s none).interfacesRun = true ∧ ((s none).port .plant).transaction = .code ∧
    ((s none).port .plant).reply = .ready .ok [7#8] false ∧ 3 < [7#8].length + 3 ∧ [7#8].length + 3 ≤ 4 ∧
    ((s none).port .plant).stream = none ∧ ((s (some ⟨48, 0⟩)).port .plant).stream = some ⟨48, 0⟩ ∧
    ((s (some ⟨1, 47⟩)).port .plant).stream = some ⟨1, 46 + 1⟩ ∧ ((open' .code).port .plant).reply = .empty ∧
    ((open' (.shiftOut (.fetch true) [0#8])).port .plant).transaction = .shiftOut (.fetch true) [0#8] ∧
    (∃ t, exec (.fetch .plant 1) (open' .code) = .next t) ∧ inHold.interfacesRun = false :=
  ⟨by decide, by decide, by decide, by decide, by decide, by decide, by decide, by decide, by decide, by decide,
    ⟨_, rfl⟩, by decide⟩

theorem witness_StagingRequests :
    State.reset.grants (.setBand .plant Band.b3.code) ∧ State.reset.grants (.setIntervalLength .plant 4#8) ∧
    State.reset.grants (.setIntervalLength .plant 61#8) ∧ State.reset.grants (.setTolerance .plant 256#16) ∧
    State.reset.grants (.setPrices .billing ⟨⟨0#16, 1#16, 2#16, 65535#16⟩, ⟨0#16, 0#16, 0#16, 0#16⟩⟩) :=
  ⟨granted (p := .plant) rfl (by decide), granted (p := .plant) rfl (by decide), granted (p := .plant) rfl (by decide),
    granted (p := .plant) rfl (by decide), granted (p := .billing) rfl (by decide)⟩

theorem witness_ImmediatePlantSettings :
    State.reset.grants (.setRuntimeLine .plant (BitVec.ofNat 8 (15 : LineNo).val) 2#8 0#8) ∧
    State.reset.grants (.setNoAdvance .plant 901#16 0#16 16#8) ∧ State.reset.grants (.setLineRate .plant LineRate.r19200.code) :=
  ⟨granted (p := .plant) rfl (by decide), granted (p := .plant) rfl (by decide), granted (p := .plant) rfl (by decide)⟩

/-- Slot 0 in a state, with address 7 and a target. -/
def slot0 (x : MeterState) (g : Target) : State :=
  withMeter State.reset 0 fun k => { k with state := x, address := 7, target := g }

theorem witness_ConfigureMeter :
    let c := fun (m : SlotNo) (v : MeterService) =>
      Instr.configureMeter .plant (BitVec.ofNat 8 m.val) 7#8 v.code Scale.x1.code 0#32 2#8
    ((slot0 .live .unassigned).grants (c 63 .both) ∧
      ∃ n : SlotNo, n ≠ 63 ∧ ((slot0 .live .unassigned).meter n).state ≠ .off ∧
        ((slot0 .live .unassigned).meter n).address = 7) ∧
    (State.reset.grants (c 0 .heat) ∧ (∀ n, n ≠ 0 → (State.reset.meter n).state ≠ .off → (State.reset.meter n).address ≠ 7) ∧
      (State.reset.meter 0).target = .unassigned ∧ (State.reset.meter 0).state = .off) ∧
    ((slot0 .live (.account 3)).grants (c 0 .cool) ∧
      ((slot0 .live (.account 3)).meter 0).target ≠ .unassigned ∧
      MeterService.cool ≠ ((slot0 .live (.account 3)).meter 0).service) ∧
    ((slot0 .late .unassigned).grants (c 0 .heat) ∧ ((slot0 .late .unassigned).meter 0).state ≠ .off ∧
      MeterService.heat = ((slot0 .late .unassigned).meter 0).service ∧
      MeterService.both ≠ ((slot0 .late .unassigned).meter 0).service) :=
  ⟨⟨granted (p := .plant) rfl (by decide), 0, by decide⟩, ⟨granted (p := .plant) rfl (by decide), by decide⟩,
    ⟨granted (p := .plant) rfl (by decide), by decide⟩, ⟨granted (p := .plant) rfl (by decide), by decide⟩⟩

theorem witness_RetireMeter :
    let c := Instr.retireMeter .plant (BitVec.ofNat 8 (0 : SlotNo).val)
    (State.reset.grants c ∧ (State.reset.meter 0).state = .off) ∧
    ((slot0 .suspect .unassigned).grants c ∧ ((slot0 .suspect .unassigned).meter 0).target = .unassigned) ∧
    ((slot0 .late (.account 47)).grants c ∧ ((slot0 .late (.account 47)).meter 0).target = .account 47) ∧
    ((slot0 .live (.pool .office)).grants c ∧ ((slot0 .live (.pool .office)).meter 0).target = .pool .office) :=
  ⟨⟨granted (p := .plant) rfl (by decide), by decide⟩, ⟨granted (p := .plant) rfl (by decide), by decide⟩,
    ⟨granted (p := .plant) rfl (by decide), by decide⟩, ⟨granted (p := .plant) rfl (by decide), by decide⟩⟩

theorem witness_ReReferenceMeter :
    let c := Instr.reReferenceMeter .plant (BitVec.ofNat 8 (0 : SlotNo).val)
    (State.reset.grants c ∧ State.reset.settleInFlight = false ∧ (State.reset.meter 0).state = .off) ∧
    ((slot0 .suspect (.pool .retail)).grants c ∧ (slot0 .suspect (.pool .retail)).settleInFlight = false ∧
      ∀ a, ((slot0 .suspect (.pool .retail)).meter 0).target ≠ .account a) ∧
    ((slot0 .late (.account 1)).grants c ∧ ((slot0 .late (.account 1)).meter 0).target = .account 1) :=
  ⟨⟨granted (p := .plant) rfl (by decide), by decide⟩, ⟨granted (p := .plant) rfl (by decide), by decide, by decide⟩,
    ⟨granted (p := .plant) rfl (by decide), by decide⟩⟩

/-- The HEATING plant slot in a state, reference 0, 1,000 Wh per count. -/
def plantIn (x : PlantState) : State := withPlant State.reset .heating fun k => { k with state := x, scale := .x1000 }

theorem witness_PlantSlots_post :
    let c := fun (n : Word) => Instr.postPlantReading .plant (serviceCode .heating) n
    ((plantIn .unreferenced).grants (c 5#32) ∧ ((plantIn .unreferenced).plant.get .heating).state = .unreferenced) ∧
    ((plantIn .live).grants (c 268435#32) ∧ ((plantIn .live).plant.get .heating).state = .live ∧
      (268435#32 - 0#32 : Word).toNat * Scale.x1000.factor ≤ 268435455) ∧
    ((plantIn .live).grants (c 2147483648#32) ∧ 2147483648 ≤ (2147483648#32 - 0#32 : Word).toNat) ∧
    ((plantIn .live).grants (c 268436#32) ∧ 268435455 < (268436#32 - 0#32 : Word).toNat * Scale.x1000.factor) ∧
    ((plantIn .held).grants (c 5#32) ∧ ((plantIn .held).plant.get .heating).state = .held) :=
  ⟨⟨granted (p := .plant) rfl (by decide), by decide⟩, ⟨granted (p := .plant) rfl (by decide), by decide⟩,
    ⟨granted (p := .plant) rfl (by decide), by decide⟩, ⟨granted (p := .plant) rfl (by decide), by decide⟩,
    ⟨granted (p := .plant) rfl (by decide), by decide⟩⟩

theorem witness_PlantSlots_requests :
    (plantIn .held).grants (.reReferencePlant .plant (serviceCode .heating)) ∧
    ((plantIn .live).grants (.configurePlant .plant (serviceCode .heating) Scale.x10.code) ∧
      ((plantIn .live).plant.get .heating).state = .live) ∧
    ((plantIn .held).grants (.configurePlant .plant (serviceCode .cooling) Scale.x10.code) ∧
      ((plantIn .held).plant.get .cooling).state ≠ .live) :=
  ⟨granted (p := .plant) rfl (by decide), ⟨granted (p := .plant) rfl (by decide), by decide⟩,
    ⟨granted (p := .plant) rfl (by decide), by decide⟩⟩

/-- ALIGNING, right after INITIALISE ACCOUNTS. -/
def aligning : State := { State.reset with clock := { State.reset.clock with store := .aligning } }

/-- RUNNING at an elapsed count. -/
def runningAt (n : Nat) : State := { running with clock := { running.clock with elapsed := n } }

theorem witness_MarkHalfLengthRule :
    (State.reset.grants (.mark .plant) ∧ State.reset.clock.store = .blank) ∧
    (aligning.grants (.mark .plant) ∧ aligning.clock.store = .aligning) ∧
    ((runningAt 450).grants (.mark .plant) ∧ (runningAt 450).clock.store = .running ∧
      (runningAt 450).settleInFlight = false ∧ (runningAt 450).clock.length * 30 ≤ (runningAt 450).clock.elapsed) ∧
    ((runningAt 449).grants (.mark .plant) ∧ (runningAt 449).clock.tickLoss = false ∧
      (runningAt 449).clock.elapsed < (runningAt 449).clock.length * 30) :=
  ⟨⟨granted (p := .plant) rfl (by decide), by decide⟩, ⟨granted (p := .plant) rfl (by decide), by decide⟩,
    ⟨granted (p := .plant) rfl (by decide), by decide⟩, ⟨granted (p := .plant) rfl (by decide), by decide⟩⟩

theorem witness_TenancyMoves :
    let enter := fun (a : AccountNo) => Instr.moveIn .billing (BitVec.ofNat 8 a.val) 9#32
    let out := fun (a : AccountNo) => Instr.moveOut .billing (BitVec.ofNat 8 a.val)
    let cancel := fun (a : AccountNo) => Instr.cancelMove .billing (BitVec.ofNat 8 a.val)
    let s := fun x => withTenancy running 47 x
    ((s .vacant).grants (enter 47) ∧ (s .vacant).clock.store ≠ .blank ∧ ((s .vacant).account 47).tenancy = .vacant) ∧
    ((s .final).grants (enter 47) ∧ ((s .final).account 47).tenancy = .final) ∧
    ((s .joined).grants (enter 47) ∧ ((s .joined).account 47).tenancy = .joined ∧ State.reset.grants (enter 0) ∧
      State.reset.clock.store = .blank) ∧
    ((s .occupied).grants (out 47) ∧ ((s .occupied).account 47).tenancy = .occupied) ∧
    ((s .opening).grants (out 47) ∧ (s .opening).grants (cancel 47) ∧ ((s .opening).account 47).tenancy = .opening) ∧
    ((s .closing).grants (out 47) ∧ (s .closing).grants (cancel 47) ∧ ((s .closing).account 47).tenancy = .closing) ∧
    (s .occupied).grants (cancel 47) :=
  ⟨⟨granted (p := .billing) rfl (by decide), by decide⟩, ⟨granted (p := .billing) rfl (by decide), by decide⟩,
    ⟨granted (p := .billing) rfl (by decide), by decide, granted (p := .billing) rfl (by decide), by decide⟩,
    ⟨granted (p := .billing) rfl (by decide), by decide⟩,
    ⟨granted (p := .billing) rfl (by decide), granted (p := .billing) rfl (by decide), by decide⟩,
    ⟨granted (p := .billing) rfl (by decide), granted (p := .billing) rfl (by decide), by decide⟩,
    granted (p := .billing) rfl (by decide)⟩

theorem witness_PairRequests :
    let join := Instr.joinPair .billing (BitVec.ofNat 8 (45 : AccountNo).val)
    let split := Instr.splitPair .billing (BitVec.ofNat 8 (45 : AccountNo).val)
    let s := withTenancy State.reset 46 .joined
    (45 : AccountNo).val % 2 = 1 ∧ (46 : AccountNo).val = (45 : AccountNo).val + 1 ∧
    State.reset.settleInFlight = false ∧ s.settleInFlight = false ∧
    (State.reset.account 45).tenancy = .vacant ∧ (State.reset.account 46).tenancy = .vacant ∧
    (s.account 46).tenancy = .joined ∧ State.reset.grants join ∧ State.reset.grants split ∧ s.grants join ∧ s.grants split :=
  ⟨by decide, by decide, by decide, by decide, by decide, by decide, by decide,
    granted (p := .billing) rfl (by decide), granted (p := .billing) rfl (by decide),
    granted (p := .billing) rfl (by decide), granted (p := .billing) rfl (by decide)⟩

theorem witness_SetAccount :
    let c := fun (x : Option LineNo) => Instr.setAccount .billing (BitVec.ofNat 8 (47 : AccountNo).val)
      { basis := ⟨Basis.runtime.code, Basis.metered.code⟩, power := ⟨1#16, 0#16⟩
        line := ⟨numberByte (some (15 : LineNo)), numberByte x⟩, retailWeight := 0#16, officeWeight := 0#16
        lossShare := 1#8 }
    State.reset.grants (c (some 15)) ∧ State.reset.grants (c none) ∧
    (some (15 : LineNo) = some 15 ∧ some (15 : LineNo) ≠ none) ∧ (some (15 : LineNo) ≠ none) ∧
    ∀ (b : AccountNo) (sv : Service), State.reset.lineAfter b sv = none :=
  ⟨granted (p := .billing) rfl (by decide), granted (p := .billing) rfl (by decide), by decide, by decide,
    fun b sv => by cases sv <;> (revert b; decide)⟩

/-- A line that another account's service will hold after the next boundary. -/
theorem witness_SetAccount_lineHeld :
    let c := Instr.setAccount .billing (BitVec.ofNat 8 (47 : AccountNo).val)
      { basis := ⟨Basis.runtime.code, Basis.metered.code⟩, power := ⟨1#16, 0#16⟩
        line := ⟨numberByte (some (15 : LineNo)), numberByte (none : Option LineNo)⟩, retailWeight := 0#16
        officeWeight := 0#16, lossShare := 1#8 }
    let s := State.reset.setAccount 0
      { State.reset.account 0 with stagedSettings := some { Settings.initial with line := ⟨none, some 15⟩ } }
    s.grants c ∧ (0 : AccountNo) ≠ 47 ∧ s.lineAfter 0 .cooling = some 15 :=
  ⟨granted (p := .billing) rfl (by decide), by decide, by decide⟩

theorem witness_MeterAssignment_assign :
    let c := fun (n : Byte) => Instr.assignMeter .billing (BitVec.ofNat 8 (0 : SlotNo).val) 1#8 n
    let d := Instr.assignMeter .billing (BitVec.ofNat 8 (0 : SlotNo).val) 2#8 Pool.office.code
    let s := slot0 .live .unassigned
    s.grants (c (BitVec.ofNat 8 (47 : AccountNo).val)) ∧ s.grants d ∧ (s.meter 0).state ≠ .off ∧
    (s.meter 0).target = .unassigned ∧ (s.meter 0).held = none ∧ (s.meter 0).accumulation = ⟨0, 0⟩ ∧
    (s.account 47).meterPos.heating = none ∧ (s.account 47).meterPos.cooling = none ∧ (s.pools.get .office).length < 8 ∧
    State.reset.grants (c (BitVec.ofNat 8 (0 : AccountNo).val)) ∧ State.reset.grants d ∧
    (State.reset.meter 0).state = .off :=
  ⟨granted (p := .billing) rfl (by decide), granted (p := .billing) rfl (by decide), by decide, by decide, by decide,
    by decide, by decide, by decide, by decide, granted (p := .billing) rfl (by decide),
    granted (p := .billing) rfl (by decide), by decide⟩

/-- A slot recorded LATE. -/
def late9 : BankSlot := { state := .late, accumulation := ⟨0, 0⟩, owner := .account 9 }

/-- The refusals: the account's position taken, the pool full, deltas held, and energy gathered for another owner. -/
theorem witness_MeterAssignment_refusals :
    let c := Instr.assignMeter .billing (BitVec.ofNat 8 (0 : SlotNo).val) 1#8 (BitVec.ofNat 8 (47 : AccountNo).val)
    let d := Instr.assignMeter .billing (BitVec.ofNat 8 (0 : SlotNo).val) 2#8 Pool.office.code
    let s := slot0 .live .unassigned
    let taken := s.setAccount 47 { s.account 47 with meterPos := ⟨some 63, none⟩ }
    let full := { s with pools := ⟨[], [8, 9, 10, 11, 12, 13, 14, 15]⟩ }
    let holds := withMeter s 0 fun k => { k with held := some { energy := ⟨1, 0⟩, account := 9 } }
    let owned := withMeter s 0 fun k => { k with accumulation := ⟨1, 0⟩, owner := .account 9 }
    (taken.grants c ∧ (taken.account 47).meterPos.heating ≠ none) ∧
    (full.grants d ∧ ¬ (full.pools.get .office).length < 8) ∧
    ((inTurn { holds with settle := .compute { bank4 with slots := bank4.slots.set 0 late9 } [] } .billing c).grants c ∧
      (holds.meter 0).held ≠ none) ∧
    (owned.grants c ∧ ¬ ((owned.meter 0).accumulation = ⟨0, 0⟩ ∨ (owned.meter 0).owner = .account 47)) :=
  ⟨⟨granted (p := .billing) rfl (by decide), by decide⟩, ⟨granted (p := .billing) rfl (by decide), by decide⟩,
    ⟨granted (p := .billing) rfl (by decide), by decide⟩, ⟨granted (p := .billing) rfl (by decide), by decide⟩⟩

theorem witness_MeterAssignment_unassign :
    let c := Instr.unassignMeter .billing (BitVec.ofNat 8 (0 : SlotNo).val)
    (State.reset.grants c ∧ (State.reset.meter 0).target = .unassigned) ∧
    ((slot0 .live (.account 47)).grants c ∧ ((slot0 .live (.account 47)).meter 0).target = .account 47) ∧
    ((slot0 .live (.pool .retail)).grants c ∧ ((slot0 .live (.pool .retail)).meter 0).target = .pool .retail) :=
  ⟨⟨granted (p := .billing) rfl (by decide), by decide⟩, ⟨granted (p := .billing) rfl (by decide), by decide⟩,
    ⟨granted (p := .billing) rfl (by decide), by decide⟩⟩

theorem witness_ClosePeriod :
    let c := Instr.closePeriod .billing
    (State.reset.grants c ∧ State.reset.clock.store ≠ .running) ∧
    (({ running with stagedClose := true } : State).grants c ∧ running.clock.store = .running) ∧
    (({ running with queue := [statementOf 0 .period] } : State).grants c ∧ running.stagedClose = false ∧
      ∃ x ∈ [statementOf 0 .period], x.kind = .period) ∧
    ((inTurn (settling (.compute bank4 [])) .billing c).grants c ∧ (settling (.compute bank4 [])).bank = some bank4 ∧
      bank4.periodEnd = true) ∧
    running.grants c :=
  ⟨⟨granted (p := .billing) rfl (by decide), by decide⟩, ⟨granted (p := .billing) rfl (by decide), by decide⟩,
    ⟨granted (p := .billing) rfl (by decide), by decide, by decide⟩, ⟨granted (p := .billing) rfl (by decide), rfl, rfl⟩,
    granted (p := .billing) rfl (by decide)⟩

theorem witness_CancelClose :
    (({ running with stagedClose := true } : State).grants (.cancelClose .billing)) ∧
    running.grants (.cancelClose .billing) ∧ running.stagedClose = false ∧
    running.intake .plant (Instr.cancelClose .plant).requestBytes = .taken :=
  ⟨granted (p := .billing) rfl (by decide), granted (p := .billing) rfl (by decide), by decide, by decide⟩

theorem witness_TakeStatement :
    let s := fun (x : Statement) => { withTenancy running 2 .joined with queue := [x] }
    State.reset.queue = [] ∧ State.reset.grants (.takeStatement .billing) ∧
    (s (statementOf 0 .period)).grants (.takeStatement .billing) ∧
    (s (statementOf 1 .final)).grants (.takeStatement .billing) ∧
    ((s (statementOf 1 .final)).account 2).tenancy = .joined ∧
    (s (statementOf 47 .final)).grants (.takeStatement .billing) ∧
    ∀ w : AccountNo, w.val ≠ (47 : AccountNo).val + 1 :=
  ⟨rfl, granted (p := .billing) rfl (by decide), granted (p := .billing) rfl (by decide),
    granted (p := .billing) rfl (by decide), by decide, granted (p := .billing) rfl (by decide), by decide⟩

theorem witness_InitialiseAccounts :
    let c := Instr.initialiseAccounts .billing
    State.reset.settleInFlight = false ∧ running.settleInFlight = false ∧ State.reset.clock.store = .blank ∧
    State.reset.grants c ∧
    ((∀ a : AccountNo, a ≠ 0 → (running.account a).tenancy = .vacant) ∧ running.queue = [] ∧ running.grants c) ∧
    ((withTenancy running 7 .occupied).grants c ∧ ((withTenancy running 7 .occupied).account 7).tenancy ≠ .vacant) :=
  ⟨by decide, by decide, by decide, granted (p := .billing) rfl (by decide),
    ⟨by decide, by decide, granted (p := .billing) rfl (by decide)⟩, ⟨granted (p := .billing) rfl (by decide), by decide⟩⟩

theorem witness_OwnPortRequests :
    State.reset.grants (.setReportMask .billing 0xFFFFFFFF#32) ∧ State.reset.repliesPend ∧
    State.reset.grants (.setAtnEnables .plant 0x0F#8) :=
  ⟨granted (p := .billing) rfl (by decide), fun p => by cases p <;> decide, granted (p := .plant) rfl (by decide)⟩

theorem witness_AckNotices :
    State.reset.grants (.ackNotices .plant 0xFFFFFFFF#32 1#8) ∧ (State.reset.faultsAt .plant).noticeAt .plant 0 = true :=
  ⟨granted (p := .plant) rfl (by decide), by decide⟩

theorem witness_ReadsChangeNothing :
    State.reset.grants (.readAccount .plant (BitVec.ofNat 8 (47 : AccountNo).val)) ∧ State.reset.grants (.readClock .plant) ∧
    State.reset.grants (.readMeter .plant (BitVec.ofNat 8 (63 : SlotNo).val)) ∧
    State.reset.grants (.readPlant .plant (serviceCode .cooling)) ∧ State.reset.grants (.readLine .plant) ∧
    State.reset.grants (.readRuntime .plant 0xFFFF#16) ∧ State.reset.grants (.readTariff .plant) ∧
    State.reset.grants (.readFaultMap .plant) ∧
    (State.reset.grants (.readFaultEntry .plant (BitVec.ofNat 8 (0 : Position).val)) ∧
      ∃ e, (State.reset.faultsAt .plant).entries.get 0 = some e) ∧
    (State.reset.grants (.readFaultEntry .plant (BitVec.ofNat 8 (31 : Position).val)) ∧
      (State.reset.faultsAt .plant).entries.get 31 = none) :=
  ⟨granted (p := .plant) rfl (by decide), granted (p := .plant) rfl (by decide), granted (p := .plant) rfl (by decide),
    granted (p := .plant) rfl (by decide), granted (p := .plant) rfl (by decide), granted (p := .plant) rfl (by decide),
    granted (p := .plant) rfl (by decide), granted (p := .plant) rfl (by decide),
    ⟨granted (p := .plant) rfl (by decide), ⟨_, rfl⟩⟩, ⟨granted (p := .plant) rfl (by decide), by decide⟩⟩

/-- A summary of interval 4. -/
def summary4 : Summary := bank4.summary (bank4.results [])

theorem witness_ReadsChangeNothing_queueAndRing :
    State.reset.grants (.readStatement .plant) ∧ State.reset.queue = [] ∧
    ({ running with queue := [statementOf 0 .period] } : State).grants (.readStatement .plant) ∧
    ({ running with ring := [summary4] } : State).grants (.readIntervalSummary .plant 0#8) ∧
    [summary4][(0#8 : Byte).toNat]? = some summary4 ∧ State.reset.grants (.readIntervalSummary .plant 15#8) ∧
    State.reset.ring.length ≤ (15#8 : Byte).toNat :=
  ⟨granted (p := .plant) rfl (by decide), rfl, granted (p := .plant) rfl (by decide),
    granted (p := .plant) rfl (by decide), rfl, granted (p := .plant) rfl (by decide), by decide⟩

theorem witness_StreamAccounts :
    let s := withPort State.reset .billing fun q => { q with slot := .preparing, reply := .pending, stream := some ⟨47, 1⟩ }
    State.reset.grants (.streamAccounts .billing (BitVec.ofNat 8 (47 : AccountNo).val) 0#8) ∧
    (s.port .billing).slot = .preparing ∧ (s.port .billing).stream = some ⟨(47 : AccountNo).val, 1⟩ ∧
    s.nextGrant = some (.port .billing) :=
  ⟨granted (p := .billing) rfl (by decide), by decide⟩

theorem witness_MeterLineCharacter :
    let s := fun (r : Receiver) => { slot0 .live .unassigned with receiver := r }
    (s .idle).interfacesRun = true ∧ ((s .idle).meter 0).state ≠ .off ∧ ((s .idle).meter 0).address = (7#8 : Byte).toNat ∧
    (∀ n : SlotNo, ¬ n < 0) ∧ (∀ m, ¬ (((s .idle).meter m).state ≠ .off ∧ ((s .idle).meter m).address = (8#8 : Byte).toNat)) ∧
    (s .discarding).receiver = .discarding ∧ (s (.addressed 0 7#8 [])).receiver = .addressed 0 7#8 [] ∧
    (s (.addressed 0 7#8 [11#8])).receiver = .addressed 0 7#8 [11#8] := by decide

/-- Addresses 0 and 251 reach no slot, 250 reaches the slot that holds it; stopped interfaces disregard a character. -/
theorem witness_MeterLineCharacter_addresses :
    let s := withMeter State.reset 63 fun k => { k with state := .live, address := 250 }
    s.interfacesRun = true ∧ s.receiver = .idle ∧
    ((s.meter 63).state ≠ .off ∧ (s.meter 63).address = (250#8 : Byte).toNat) ∧
    (∀ n : SlotNo, n < 63 → ¬ ((s.meter n).state ≠ .off ∧ (s.meter n).address = (250#8 : Byte).toNat)) ∧
    (0#8 : Byte).toNat = 0 ∧ 250 < (251#8 : Byte).toNat ∧ inHold.interfacesRun = false := by decide

/-- A slot with a capture entry waiting. -/
def draining (s : State) (e : CaptureEntry) : State := { s with capture := [e] }

theorem witness_DrainErrorsAndFirstFrames :
    let e := CaptureEntry.error 0 7#8 .gap
    let f := fun (st : Byte) => CaptureEntry.frame 0 7#8 5#32 6#32 st
    let streak := fun (x : MeterState) => withMeter (slot0 x .unassigned) 0 fun k => { k with errorStreak := 7 }
    ((draining State.reset e).nextGrant = some .drain ∧ (draining State.reset e).anyHeldDue = false ∧
      (State.reset.meter 0).state = .off) ∧
    ((draining (slot0 .live .unassigned) e).nextGrant = some .drain ∧
      ((slot0 .live .unassigned).meter 0).address = (7#8 : Byte).toNat ∧
      ((slot0 .live .unassigned).meter 0).errorStreak ≠ 7) ∧
    ((draining (streak .suspect) e).nextGrant = some .drain ∧ ((streak .suspect).meter 0).errorStreak = 7) ∧
    ((draining (streak .late) e).nextGrant = some .drain ∧ ((streak .late).meter 0).state ≠ .suspect) ∧
    ((draining (slot0 .suspect .unassigned) (f 0#8)).nextGrant = some .drain) ∧
    ((draining (slot0 .unreferenced .unassigned) (f 1#8)).nextGrant = some .drain ∧ (1#8 : Byte).getLsbD 0 = true) ∧
    ((draining (slot0 .unreferenced .unassigned) (f 2#8)).nextGrant = some .drain ∧ (2#8 : Byte).getLsbD 0 = false) := by
  decide

/-- Slot 0 LATE and assigned to account 3, a settle in flight whose bank records it LATE and has not posted account 3. -/
def holding : State :=
  { slot0 .late (.account 3) with
    clock := running.clock
    settle := .compute { bank4 with slots := bank4.slots.set 0 { state := .late, accumulation := ⟨0, 0⟩,
                                                                 owner := .account 3 } } [] }

theorem witness_DrainReadings :
    let f := fun (n : Word) (st : Byte) => CaptureEntry.frame 0 7#8 n 0#32 st
    (∀ x ∈ [f 2147483648#32 0#8, f 268435456#32 0#8, f 1#32 1#8, f 1#32 0#8],
      (draining (slot0 .live .unassigned) x).nextGrant = some .drain ∧
      (draining (slot0 .live .unassigned) x).anyHeldDue = false) ∧
    ((slot0 .live .unassigned).meter 0).state = .live ∧ ((slot0 .live .unassigned).meter 0).address = (7#8 : Byte).toNat ∧
    (draining (slot0 .live (.pool .retail)) (f 1#32 0#8)).nextGrant = some .drain ∧
    (draining (slot0 .late (.account 3)) (f 1#32 0#8)).nextGrant = some .drain ∧
    (slot0 .late (.account 3)).bank = none ∧ (draining holding (f 1#32 0#8)).nextGrant = some .drain ∧
    (holding.bank.map fun b => (b.slots.get 0).state) = some .late ∧
    (holding.bank.map fun b => b.interval) ≠ some (holding.account 3).settledThrough := by decide

theorem witness_ApplyHeldDeltas :
    let s := withMeter State.reset 63 fun k => { k with held := some { energy := ⟨8560, 0⟩, account := 9 } }
    s.nextGrant = some .drain ∧ (s.meter 63).held = some { energy := ⟨8560, 0⟩, account := 9 } ∧
    s.holdActive 63 9 = false := by decide

theorem witness_TickEdge :
    let lost := { running with clock := { running.clock with tickLoss := true } }
    running.interfacesRun = true ∧ running.deferredDue = false ∧ running.clock.store ≠ .blank ∧
    running.clock.tickLoss = false ∧ lost.deferredDue = false ∧ lost.clock.tickLoss = true ∧
    State.reset.deferredDue = false ∧ State.reset.clock.store = .blank ∧
    (nearLimit running).interfacesRun = true ∧ (nearLimit running).deferredDue = false ∧
    (deferred running).interfacesRun = true ∧ (deferred running).deferredDue = true ∧ inHold.interfacesRun = false := by
  decide

/-- R24, R143: the TICK that reaches the limit and the boundary are one step. -/
theorem test_tick_takes_boundary :
    ((nearLimit running).tick 0#16).clock.interval = 6 ∧ ((nearLimit running).tick 0#16).clock.elapsed = 0 := by
  decide +kernel

theorem witness_TimerExpiry :
    (∀ s ∈ [aligning, running, settling (.compute bank4 [])], (nearLimit s).interfacesRun = true ∧
      (nearLimit s).clock.store ≠ .blank ∧ (nearLimit s).clock.deferred = false ∧
      (nearLimit s).clock.length * 60 ≤ (nearLimit s).clock.elapsed + 1) ∧
    aligning.clock.store = .aligning ∧ running.clock.elapsed + 1 < running.clock.length * 60 ∧
    running.deferredDue = false ∧ (deferred running).clock.store = .running ∧
    (deferred running).clock.deferred = true ∧ (deferred running).interfacesRun = true := by decide

theorem witness_TimerExpiry_deferred : (deferred running).settle = .idle := rfl

/-- Forty-seven of the forty-eight readings. -/
def reads47 : List (PerService Reading) := List.replicate 47 ⟨⟨0, [], 0⟩, ⟨0, [], 0⟩⟩

theorem witness_ComputeRead :
    (settling (.compute bank4 reads47)).settle = .compute bank4 reads47 ∧ (47 : AccountNo).val = reads47.length ∧
    (settling (.compute bank4 reads47)).nextGrant = some .settle ∧ (0 : AccountNo).val < 47 ∧
    (settling (.compute bank4 [])).nextGrant = some .settle := ⟨rfl, by decide, by decide, by decide, by decide⟩

theorem witness_TenancyLaw :
    let b := { bank4 with accounts := (bank4.accounts.set 2
      { recorded := .joined, settings := Account.initial.inForce, meterPos := ⟨none, none⟩ }) }
    (47 : AccountNo) ≠ 0 ∧ (b.accounts.get 47).recorded ≠ .occupied ∧ (b.accounts.get 47).recorded ≠ .closing ∧
    (b.accounts.get 47).recorded ≠ .joined ∧ (b.accounts.get 2).recorded = .joined ∧
    (b.accounts.get 1).recorded = .closing := by decide

theorem witness_AccountPost :
    ∀ a ∈ ([0, 1, 47] : List AccountNo),
      (settling (.post bank4 (bank4.results []) a)).nextGrant = some .settle := by decide

theorem witness_AccountPostSettle :
    (settling (.post bank4 (bank4.results []) 1)).settle = .post bank4 (bank4.results []) 1 ∧
    bank4.standing 1 = true ∧ bank4.standing 2 = false := ⟨rfl, by decide, by decide⟩

/-- CLOSEOUT with its visits before `n` made, every account active. -/
def closing (n : Nat) (done : Bool) : State :=
  let s := settling (.closeout bank4 (bank4.results []) n done)
  { s with accounts := s.accounts.map fun r => { r with totals := { r.totals with active := true } } }

theorem witness_Closeout_visits :
    (∀ n ∈ [0, 1, 47], (closing n false).nextGrant = some .settle) ∧
    (closing 1 false).settle = .closeout bank4 (bank4.results []) (1 : AccountNo).val false ∧
    (bank4.accounts.get 1).recorded = .closing ∧ (bank4.accounts.get 0).recorded = .occupied ∧ bank4.periodEnd = true ∧
    ((closing 0 false).account 0).totals.active = true ∧ (bank4.accounts.get 47).recorded = .vacant :=
  ⟨by decide, rfl, by decide, by decide, by decide, by decide, by decide⟩

theorem witness_Closeout_ends :
    (closing 48 false).nextGrant = some .settle ∧ (closing 48 true).nextGrant = some .settle ∧
    (closing 48 false).settle = .closeout bank4 (bank4.results []) 48 false ∧
    (closing 48 true).settle = .closeout bank4 (bank4.results []) 48 true := ⟨by decide, by decide, rfl, rfl⟩

/-- RESETn low in RUN. -/
def inReset : State := { State.reset with supervisor := { State.reset.supervisor with resetHigh := false, resetSeen := true } }

theorem witness_SupplyLevels :
    State.reset.supervisor.supply = .run ∧ State.reset.supervisor.resetHigh = true ∧
    inReset.supervisor.supply = .run ∧ inReset.supervisor.resetHigh = false ∧
    inHold.supervisor.supply = .hold ∧ inHold.supervisor.supply ≠ .run ∧
    ({ State.reset.supervisor with backupLow := true } : Supervisor).supply = .run ∧
    ({ inHold.supervisor with main := .aboveRun } : Supervisor).supply = .hold := by decide

/-- R185: VMAIN falls with BACKUP-LOW set, and BACKUP-LOW is set in HOLD with VMAIN above the run threshold. -/
theorem test_supply_to_off :
    let low := State.reset.setSupervisor { State.reset.supervisor with backupLow := true }
    let high := inHold.setSupervisor { inHold.supervisor with main := .aboveRun }
    (∃ t, exec .vmainFall low = .next t ∧ t.supervisor.supply = .off) ∧
    ∃ t, exec (.backupLowChange true) high = .next t ∧ t.supervisor.supply = .off ∧ t.supervisor.recovery = true :=
  ⟨⟨_, rfl, rfl⟩, ⟨_, rfl, rfl, rfl⟩⟩

theorem witness_HoldExit :
    let s := fun (b : Bool) => { inHold with supervisor := { inHold.supervisor with recovery := true, resetHigh := b } }
    (s true).supervisor.supply = .hold ∧ (s true).supervisor.recovery = true ∧ (s true).supervisor.resetHigh = true ∧
    (s false).supervisor.supply = .hold ∧ (s false).supervisor.recovery = true ∧
    (s false).supervisor.resetHigh = false := by decide

theorem witness_WarmReset :
    State.reset.supervisor.resetHigh = true ∧ State.reset.supervisor.supply = .run ∧
    inHold.supervisor.resetHigh = true ∧ inHold.supervisor.supply ≠ .run ∧
    inReset.supervisor.resetHigh = false ∧ inReset.supervisor.supply = .run ∧
    ({ inHold.supervisor with resetHigh := false } : Supervisor).supply ≠ .run := by decide

theorem witness_PowerOnReset :
    let s := { State.reset with supervisor := { State.reset.supervisor with supply := .off, recovery := true } }
    s.supervisor.supply = .off ∧ s.supervisor.recovery = true := by decide

/-! ## Witnesses for the laws every step keeps: states that meet each law and take a step -/

/-- A settle of interval 4 in COMPUTE, with slot 0 LIVE, and VMAIN about to rise. -/
def kept : State :=
  { settling (.compute bank4 []) with
    meters := State.reset.meters.set 0 { MeterSlot.initial with state := .live }
    pending := [.vmainRise] }

theorem kept_steps : ∃ t, step kept = .next t := ⟨_, rfl⟩

theorem kept_entry (i : Position) (h : i ≠ 0) : kept.faults.entries.get i = none :=
  (show Faults.initial.entries.get i = none by
    unfold Faults.initial; rw [Table.get_set_ne _ _ (Ne.symm h), Table.get_fill])

theorem kept_index {i : Position} {x : FaultEntry} (h : kept.faults.entries.get i = some x) : i = 0 :=
  Decidable.byContradiction fun n => by rw [kept_entry i n] at h; cases h

theorem witness_FaultUniquenessKept :
    kept.faults.unique ∧ kept.faults.proper ∧ ∃ t, step kept = .next t := by
  refine ⟨fun i j x y hx hy _ _ => (kept_index hx).trans (kept_index hy).symm, fun i x hx => ?_, kept_steps⟩
  cases kept_index hx
  cases (show some _ = some x from hx)
  exact ⟨fun h => (by cases h), .inl rfl⟩

theorem witness_SingleSettleKept : kept.singleSettle ∧ ∃ t, step kept = .next t :=
  ⟨fun b h => by cases (show some bank4 = some b from h); exact ⟨rfl, by decide⟩, kept_steps⟩

theorem witness_SettledThroughKept : kept.settledThroughLaw ∧ ∃ t, step kept = .next t :=
  ⟨show ∀ a, (kept.account a).settledThrough = kept.lastSettled by decide, kept_steps⟩

theorem kept_meter (m : SlotNo) : (kept.meter m).target = .unassigned ∧ ((kept.meter m).state ≠ .off → m = 0) := by
  revert m; decide

theorem witness_MeterUniquenessKept : kept.meterUniqueness ∧ ∃ t, step kept = .next t := by
  refine ⟨⟨fun m k hm hk _ => ((kept_meter m).2 hm).trans ((kept_meter k).2 hk).symm, fun a sv m => ?_, fun q => ?_⟩,
    kept_steps⟩
  · have h : (kept.account a).meterPos.get sv = none := by cases sv <;> revert a <;> decide
    rw [h, (kept_meter m).1]; exact ⟨fun h => (by cases h), fun h => (by cases h.1)⟩
  · refine ⟨fun m => ?_, by cases q <;> exact List.nodup_nil, by cases q <;> decide⟩
    rw [(kept_meter m).1]; cases q <;> exact ⟨fun h => (by cases h), fun h => (by cases h)⟩

theorem witness_LineMappingKept : kept.lineMappingLaw ∧ ∃ t, step kept = .next t := by
  have h : ∀ a sv, (kept.account a).inForce.line.get sv = none ∧ (kept.account a).nextLine sv = none := by
    intro a sv; cases sv <;> revert a <;> decide
  exact ⟨⟨fun a _ sv _ l x _ => (by cases (h a sv).1.symm.trans x),
    fun a _ sv _ l x _ => (by cases (h a sv).2.symm.trans x)⟩, kept_steps⟩

/-- CLOSEOUT with no close, its visit of account 0 made, and VMAIN about to rise. -/
def keptCloseout : State :=
  { settling (.closeout State.reset.fillBank (State.reset.fillBank.results []) 1 false) with pending := [.vmainRise] }

theorem witness_StatementBoundKept :
    keptCloseout.tenanciesProper ∧ keptCloseout.statementBound ∧ ∃ t, step keptCloseout = .next t := by
  have h : ∀ a, keptCloseout.account a = if a = 0 then Account.house else Account.initial := by decide
  refine ⟨⟨fun a => ?_, rfl, rfl, fun a x => ?_⟩, ⟨fun a => ⟨Nat.zero_le _, Nat.zero_le _⟩, fun x => (by cases x),
    fun b a _ _ _ => rfl, fun a x => absurd x (Nat.lt_irrefl 0), fun b a hb hr _ => ?_⟩, _, rfl⟩
  · rw [h a]; split
    · exact ⟨rfl, rfl⟩
    · exact ⟨rfl, rfl⟩
  · rw [h a] at x; split at x <;> cases x
  · cases (show some State.reset.fillBank = some b from hb)
    have n : ∀ a, (State.reset.fillBank.accounts.get a).recorded ≠ .closing := by decide
    exact absurd hr (n a)

theorem kept_clock : kept.clock.inRange :=
  ⟨by decide, by decide, fun n h => (by cases h), by decide, by decide, by decide,
    fun sv b => (by cases sv <;> cases b <;> decide), fun x h => (by cases h), by decide, fun n h => (by cases h)⟩

theorem kept_settings : Settings.initial.inRange := ⟨fun sv => (by cases sv <;> decide), by decide, by decide⟩

theorem kept_account (a : AccountNo) : (kept.account a).inRange := by
  have h : ∀ a, (kept.account a).inForce = Settings.initial ∧ (kept.account a).stagedSettings = none ∧
      (kept.account a).work = ⟨.zero, .zero⟩ ∧ (kept.account a).totals = .zero ∧ (kept.account a).firstInterval = 0 ∧
      (kept.account a).settledThrough = 0 := by decide
  obtain ⟨h1, h2, h3, h4, h5, h6⟩ := h a
  unfold Account.inRange
  rw [h1, h2, h3, h4, h5, h6]
  refine ⟨kept_settings, fun x h => (by cases h), fun sv => ?_, ⟨fun sv => (by cases sv <;> decide),
    fun sv b => (by cases sv <;> cases b <;> decide), by decide, by decide, by decide⟩, by decide, by decide⟩
  cases sv <;> exact ⟨by decide, by decide, by decide, fun e h => (by cases h), by decide⟩

theorem kept_slot (m : SlotNo) : (kept.meter m).inRange := by
  have h : ∀ m, (kept.meter m).address = 1 ∧ (kept.meter m).spikeLimit = 0 ∧ (kept.meter m).lateLimit = 2 ∧
      (kept.meter m).missed = 0 ∧ (kept.meter m).errorStreak = 0 ∧ (kept.meter m).accumulation = ⟨0, 0⟩ ∧
      (kept.meter m).held = none := by decide
  obtain ⟨h1, h2, h3, h4, h5, h6, h7⟩ := h m
  unfold MeterSlot.inRange
  rw [h1, h2, h3, h4, h5, h6, h7]
  exact ⟨by decide, by decide, by decide, by decide, by decide, by decide, by decide,
    fun sv => (by cases sv <;> decide), fun h e => (by cases e)⟩

theorem witness_RecordRangesKept : kept.clock.inRange ∧ kept.recordsInRange ∧ ∃ t, step kept = .next t := by
  refine ⟨kept_clock, ⟨kept_account, kept_slot, fun sv => (by cases sv <;> decide), by decide, ?_, by decide, by decide,
    by decide, fun p => (by cases p <;> decide), fun i e h => ?_⟩, kept_steps⟩
  · exact ⟨⟨by decide, fun m sv => by
      have h : ∀ m : SlotNo, (bank4.slots.get m).accumulation = ⟨0, 0⟩ := by decide
      rw [h m]; cases sv <;> decide⟩, fun r h => (by cases h)⟩
  · cases kept_index h
    cases (show some _ = some e from h)
    decide

/-- RUNNING with a deferral due, a request waiting on each port, and a settle whose yield set waits or not. -/
theorem witness_ArbiterGrants :
    let both := inTurn (inTurn running .billing (.readClock .billing)) .plant (.readClock .plant)
    let two := fun (turn : Option Port) => { both with arbiter := { granted := none, yieldSet := [], turn := turn } }
    State.reset.arbiter.granted = none ∧ State.reset.deferredDue = false ∧ State.reset.waiting .drain = false ∧
    (settling (.compute bank4 [])).waiting .settle = true ∧
    (two none).waiting (.port .plant) = true ∧ (two (some .billing)).waiting (.port .billing) = true ∧
    (inTurn running .billing (.readClock .billing)).waiting (.port .plant) = false ∧
    ((deferred running).clock.store = .running ∧ (deferred running).clock.deferred = true) ∧
    inHold.interfacesRun = false ∧
    (∃ t, exec .computeRead (settling (.compute bank4 [])) = .next t) :=
  ⟨rfl, by decide, by decide, by decide, by decide, by decide, by decide, by decide, by decide, ⟨_, rfl⟩⟩

/-- The table after reset holds STORE-LOST; with every position taken a new raise overflows. -/
theorem witness_FaultTableRules :
    let f := State.reset.faults
    let suspect := fun i : Position => ({ seq := i.val, cls := .meterSuspect, subject := .meter (Fin.ofNat 64 i.val)
                                          first := 1, last := 1, occurrences := 1, active := true
                                          notice := ⟨true, true⟩ } : FaultEntry)
    let full := { f with entries := Table.ofFn fun i => some (suspect i) }
    (∃ e, f.entries.get 0 = some e ∧ e.cls = .storeLost ∧ e.subject = .store ∧ e.active = false) ∧
    (∀ i, full.entries.get i ≠ none) ∧
    (∃ e, full.entries.get 31 = some e ∧ e.cls = .meterSuspect ∧ e.subject = .meter 31 ∧ e.active = true) ∧
    (f.mask.get .plant).getLsbD FaultClass.tickLoss.code.val = false ∧
    f.counter < 65536 ∧ f.entries.get 1 = none ∧ f.cursor = 1 ∧
    (let masked := { f with mask := ⟨1#32 <<< 7, 1#32 <<< 7⟩ }
     ∃ c : FaultClass, (masked.mask.get .plant).getLsbD c.code.val = true ∧
       (masked.mask.get .billing).getLsbD c.code.val = true ∧ c ≠ .storeLost) :=
  ⟨⟨_, rfl, rfl, rfl, rfl⟩, by decide, ⟨_, rfl, rfl, by decide, rfl⟩, by decide, by decide, by decide, by decide,
    .meterRetiredAssigned, by decide, by decide, by decide⟩

theorem witness_FaultTableRules_unique : kept.faults.unique := witness_FaultUniquenessKept.1

/-- Section 6.7: account 31 is estimated by its runtime, account 5 metered, account 8 redirected. -/
theorem witness_ServiceResults :
    (bank812 250000).kind .cooling 31 = .estimated ∧ (bank812 250000).kind .cooling 5 = .metered ∧
    (bank812 250000).kind .cooling 8 = .redirected := by decide +kernel

/-- Accounts 6 and 8 recorded JOINED: the lower account 5 stands and the lower account 7 does not. -/
theorem witness_ServiceResults_credited :
    let b := bank812 250000
    let joined := fun a => { b.accounts.get a with recorded := .joined }
    let c := { b with accounts := (b.accounts.set 6 (joined 6)).set 8 (joined 8) }
    (c.accounts.get 5).recorded = .occupied ∧ (c.accounts.get 6).recorded = .joined ∧ c.creditTo 6 = 5 ∧
    (c.accounts.get 7).recorded = .vacant ∧ (c.accounts.get 8).recorded = .joined ∧ c.creditTo 8 = 0 ∧
    c.creditTo 7 = 0 ∧ c.shareTo 7 = 0 ∧ c.weight .retail 8 = 0 := by decide +kernel

/-- R76, R77: the streak and the trip at the window's boundary. -/
theorem test_no_advance_trip :
    let x : NoAdvance := { openMin := 300, advanceMin := 100, window := 3 }
    x.check (some 300) 99 2 = (0, true) ∧ x.check (some 300) 99 1 = (2, false) ∧ x.check (some 300) 100 2 = (0, false) ∧
    x.check (some 299) 0 2 = (2, false) := by decide

/-- Section 12.3 and R168 after a power-on reset: NOTICE, and the attention output by the enabled NOTICE source. -/
theorem witness_PortOutputs :
    State.reset.statusByteOf .plant = 0x81#8 ∧ State.reset.attention .plant = true ∧ inHold.attention .plant = false ∧
    State.reset.attentionByte .billing = 0x8C#8 ∧ State.reset.dataLine .plant = none ∧
    (open' .code).dataLine .plant = some [0#8] := by decide

theorem witness_RangesKept :
    kept.clock.inRange ∧ kept.countsBounded ∧ kept.quiet ∧ kept.repliesPend ∧ ∃ t, step kept = .next t :=
  ⟨kept_clock, ⟨by decide, by decide⟩, ⟨rfl, fun h => (by cases h)⟩,
    fun p h => by cases p <;> exact absurd rfl h, kept_steps⟩

theorem witness_FirstNoticeLaw :
    State.reset.faults.firstNotice .plant = some 0 ∧ State.reset.faults.noticeAt .plant 0 = true ∧
    (∃ e, State.reset.faults.entries.get 0 = some e) ∧
    ({ State.reset.faults with entries := Table.fill 32 none } : Faults).firstNotice .plant = none :=
  ⟨by decide, by decide, ⟨_, rfl⟩, by decide⟩

theorem witness_RequestFramesRoundTrip :
    (Instr.mark .plant).port = some .plant ∧ (Instr.mark .plant).requestBytes ≠ [] ∧
    decodeFrame .plant 0#16 [0x1C#8] = some (.mark .plant) := by decide

end Sys2Proof.Tests
end

section
/-!
PROOF. The account requests of the Billing Port: what their operand bytes name, what a granted request leaves that writes
at most one account record, what MOVE IN, MOVE OUT, CANCEL MOVE and SET ACCOUNT answer case by case (R8 to R10, R14, R15),
and the statements O22 and O24 from these.
-/

namespace Sys2Proof.Machine

/-! ## What the operand bytes of an account request name (R192) -/

@[simp] theorem accountOf_ofNat (a : AccountNo) : accountOf (BitVec.ofNat 8 a.val) = some a := by
  have hval : (BitVec.ofNat 8 a.val).toNat = a.val := by
    rw [BitVec.toNat_ofNat]
    omega
  simp [accountOf, hval]

@[simp] theorem accountOf_zero : accountOf 0#8 = some 0 := accountOf_ofNat 0

@[simp] theorem basisOf_code (b : Basis) : basisOf b.code = some b := by
  cases b <;> rfl

@[simp] theorem lineField_numberByte (o : Option LineNo) : lineField (numberByte o) = some o := by
  cases o with
  | none => rfl
  | some l =>
    revert l
    decide

theorem flagOf_eq_toNat (b : Byte) : flagOf b = decide (b.toNat ≠ 0) :=
  decide_eq_decide.2 (not_congr BitVec.toNat_inj.symm)

/-! ## A granted request that writes at most one account record -/

section Granted

variable {s : State} {p : Port} {frame : List Byte} {work : State → Answer} {a : AccountNo} {r : Account}

/-- Work that refuses on any state with the same accounts and clock leaves the store as it was. -/
theorem State.serve_of_refuse {result : Result} (h : s.grantsRequest p frame = true)
    (hwork : ∀ t : State, (∀ b, t.account b = s.account b) → t.clock = s.clock → work t = .refuse t result) :
    s.serve p frame work = s.afterRequest p result [] :=
  State.serve_eq h fun _ _ _ hans => by
    obtain rfl := hans.symm.trans (hwork _ (fun _ => rfl) rfl)
    exact ⟨rfl, rfl, rfl, rfl⟩

/-- Work that writes one account record on any state with the same accounts and clock leaves that write alone. -/
theorem State.serve_of_setAccount (h : s.grantsRequest p frame = true)
    (hwork : ∀ t : State, (∀ b, t.account b = s.account b) → t.clock = s.clock → work t = .ok (t.setAccount a r) []) :
    s.serve p frame work = { s.afterRequest p .ok [] with accounts := s.accounts.set a r } :=
  State.serve_eq h fun _ _ _ hans => by
    obtain rfl := hans.symm.trans (hwork _ (fun _ => rfl) rfl)
    exact ⟨rfl, rfl, rfl, rfl⟩

end Granted

/-! ## The tenancy moves, case by case (R8 to R10) -/

section Moves

variable {s : State} {a : AccountNo} {r : Account} {tag : Word}

theorem moveInWork_of_vacant (hr : s.account a = r) (hstore : s.clock.store ≠ .blank) (ha : a ≠ 0)
    (hten : r.tenancy = .vacant) :
    moveInWork (BitVec.ofNat 8 a.val) tag s =
      .ok (s.setAccount a { r with tenancy := .opening, staged := some (.moveIn tag) }) [] := by
  simp [moveInWork, hr, hstore, ha, hten]

theorem moveInWork_of_final (hr : s.account a = r) (hstore : s.clock.store ≠ .blank) (ha : a ≠ 0)
    (hten : r.tenancy = .final) :
    moveInWork (BitVec.ofNat 8 a.val) tag s = .refuse s .statementsPending := by
  simp [moveInWork, hr, hstore, ha, hten]

theorem moveInWork_of_wrongState (hr : s.account a = r)
    (h : s.clock.store = .blank ∨ a = 0 ∨ (r.tenancy ≠ .vacant ∧ r.tenancy ≠ .final)) :
    moveInWork (BitVec.ofNat 8 a.val) tag s = .refuse s .wrongState := by
  rcases h with hblank | ha | ⟨hvacant, hfinal⟩
  · simp [moveInWork, hblank]
  · simp [moveInWork, ha]
  · cases hten : r.tenancy with
    | vacant => exact absurd hten hvacant
    | final => exact absurd hten hfinal
    | opening | occupied | closing | joined => simp [moveInWork, hr, hten]

theorem moveOutWork_of_occupied (hr : s.account a = r) (ha : a ≠ 0) (hten : r.tenancy = .occupied) :
    moveOutWork (BitVec.ofNat 8 a.val) s =
      .ok (s.setAccount a { r with tenancy := .closing, staged := some .moveOut }) [] := by
  simp [moveOutWork, hr, ha, hten]

theorem moveOutWork_of_opening (hr : s.account a = r) (ha : a ≠ 0) (hten : r.tenancy = .opening) :
    moveOutWork (BitVec.ofNat 8 a.val) s = .ok (s.setAccount a { r with tenancy := .vacant, staged := none }) [] := by
  simp [moveOutWork, hr, ha, hten]

theorem moveOutWork_of_wrongState (hr : s.account a = r)
    (h : a = 0 ∨ (r.tenancy ≠ .occupied ∧ r.tenancy ≠ .opening)) :
    moveOutWork (BitVec.ofNat 8 a.val) s = .refuse s .wrongState := by
  rcases h with ha | ⟨hoccupied, hopening⟩
  · simp [moveOutWork, ha]
  · cases hten : r.tenancy with
    | occupied => exact absurd hten hoccupied
    | opening => exact absurd hten hopening
    | vacant | closing | final | joined => simp [moveOutWork, hr, hten]

theorem cancelMoveWork_of_closing (hr : s.account a = r) (ha : a ≠ 0) (hten : r.tenancy = .closing) :
    cancelMoveWork (BitVec.ofNat 8 a.val) s =
      .ok (s.setAccount a { r with tenancy := .occupied, staged := none }) [] := by
  simp [cancelMoveWork, hr, ha, hten]

theorem cancelMoveWork_of_opening (hr : s.account a = r) (ha : a ≠ 0) (hten : r.tenancy = .opening) :
    cancelMoveWork (BitVec.ofNat 8 a.val) s =
      .ok (s.setAccount a { r with tenancy := .vacant, staged := none }) [] := by
  simp [cancelMoveWork, hr, ha, hten]

theorem cancelMoveWork_of_wrongState (hr : s.account a = r)
    (h : a = 0 ∨ (r.tenancy ≠ .closing ∧ r.tenancy ≠ .opening)) :
    cancelMoveWork (BitVec.ofNat 8 a.val) s = .refuse s .wrongState := by
  rcases h with ha | ⟨hclosing, hopening⟩
  · simp [cancelMoveWork, ha]
  · cases hten : r.tenancy with
    | closing => exact absurd hten hclosing
    | opening => exact absurd hten hopening
    | vacant | occupied | final | joined => simp [cancelMoveWork, hr, hten]

end Moves

theorem exec_moveIn (p : Port) (account : Byte) (tag : Word) (s : State) :
    exec (.moveIn p account tag) s =
      .next (s.serve p (Instr.moveIn p account tag).requestBytes (moveInWork account tag)) := rfl

theorem exec_moveOut (p : Port) (account : Byte) (s : State) :
    exec (.moveOut p account) s = .next (s.serve p (Instr.moveOut p account).requestBytes (moveOutWork account)) := rfl

theorem exec_cancelMove (p : Port) (account : Byte) (s : State) :
    exec (.cancelMove p account) s =
      .next (s.serve p (Instr.cancelMove p account).requestBytes (cancelMoveWork account)) := rfl

/-- Settles O22: each clause is the equation of the request's work for that tenancy state, carried through its grant. -/
theorem tenancyMoves : Obligations.TenancyMoves := by
  unfold Obligations.TenancyMoves
  intro s a
  simp only [exec_moveIn, exec_moveOut, exec_cancelMove, Host.Outcome.next.injEq]
  refine ⟨fun tag h => ⟨fun hstore ha hten => ?vacant, fun hstore ha hten => ?final, fun hwrong => ?inWrong⟩,
    fun h => ⟨fun ha hten => ?occupied, fun ha hten => ?outOpening, fun hwrong => ?outWrong⟩,
    fun h => ⟨fun ha hten => ?closing, fun ha hten => ?cancelOpening, fun hwrong => ?cancelWrong⟩⟩
  case vacant =>
    exact State.serve_of_setAccount h fun t hacc hclk => moveInWork_of_vacant (hacc a) (by rwa [hclk]) ha hten
  case final =>
    exact State.serve_of_refuse h fun t hacc hclk => moveInWork_of_final (hacc a) (by rwa [hclk]) ha hten
  case inWrong =>
    exact State.serve_of_refuse h fun t hacc hclk => moveInWork_of_wrongState (hacc a) (by rwa [hclk])
  case occupied => exact State.serve_of_setAccount h fun t hacc _ => moveOutWork_of_occupied (hacc a) ha hten
  case outOpening => exact State.serve_of_setAccount h fun t hacc _ => moveOutWork_of_opening (hacc a) ha hten
  case outWrong => exact State.serve_of_refuse h fun t hacc _ => moveOutWork_of_wrongState (hacc a) hwrong
  case closing => exact State.serve_of_setAccount h fun t hacc _ => cancelMoveWork_of_closing (hacc a) ha hten
  case cancelOpening => exact State.serve_of_setAccount h fun t hacc _ => cancelMoveWork_of_opening (hacc a) ha hten
  case cancelWrong => exact State.serve_of_refuse h fun t hacc _ => cancelMoveWork_of_wrongState (hacc a) hwrong

/-! ## The lines SET ACCOUNT refuses (R15) -/

theorem State.lineAfter_eq_nextLine (s : State) (b : AccountNo) (sv : Service) :
    s.lineAfter b sv = (s.account b).nextLine sv := by
  unfold State.lineAfter Account.nextLine
  cases (s.account b).stagedSettings <;> rfl

theorem Account.willHold_iff (r : Account) (l : LineNo) : r.willHold l = true ↔ ∃ sv, r.nextLine sv = some l := by
  simp only [Account.willHold, Bool.or_eq_true, decide_eq_true_eq]
  constructor
  · rintro (h | h)
    · exact ⟨.heating, h⟩
    · exact ⟨.cooling, h⟩
  · rintro ⟨sv, h⟩
    cases sv with
    | heating => exact .inl h
    | cooling => exact .inr h

theorem State.lineTaken_iff (s : State) (a : AccountNo) (o : Option LineNo) :
    s.lineTaken a o = true ↔ ∃ b sv l, b ≠ a ∧ s.lineAfter b sv = some l ∧ o = some l := by
  simp only [State.lineTaken, Option.any_eq_true, List.any_eq_true, List.mem_finRange, true_and, Bool.and_eq_true,
    decide_eq_true_eq, Account.willHold_iff, State.lineAfter_eq_nextLine]
  constructor
  · rintro ⟨l, ho, b, hb, sv, hl⟩
    exact ⟨b, sv, l, hb, hl, ho⟩
  · rintro ⟨b, sv, l, hb, hl, ho⟩
    exact ⟨l, ho, b, hb, sv, hl⟩

/-- The model's test is R15's: one line for both services, or a line that another account's service will hold. -/
theorem State.lineClash_iff (s : State) (a : AccountNo) (lh lc : Option LineNo) :
    s.lineClash a ⟨lh, lc⟩ = true ↔
      (lh = lc ∧ lh ≠ none) ∨ ∃ b sv l, b ≠ a ∧ s.lineAfter b sv = some l ∧ (lh = some l ∨ lc = some l) := by
  simp only [State.lineClash, Bool.or_eq_true, Bool.and_eq_true, decide_eq_true_eq, State.lineTaken_iff,
    Option.isSome_iff_ne_none, or_assoc, and_comm (a := lh ≠ none), and_or_left, exists_or]

theorem State.lineClash_congr {s t : State} (h : ∀ b, t.account b = s.account b) (a : AccountNo)
    (line : PerService (Option LineNo)) : t.lineClash a line = s.lineClash a line := by
  simp [State.lineClash, State.lineTaken, h]

/-! ## SET ACCOUNT with good operands (R14, R15) -/

theorem setAccountWork_eq {block : SettingsBlock} {basis : PerService Basis} {line : PerService (Option LineNo)}
    (hbasis : block.basis = basis.map Basis.code) (hline : block.line = line.map numberByte) (a : AccountNo) (s : State) :
    setAccountWork (BitVec.ofNat 8 a.val) block s =
      if s.lineClash a line then .refuse s .wrongState
      else .ok (s.setAccount a { s.account a with stagedSettings := some (settingsOf block basis line) }) [] := by
  simp [setAccountWork, hbasis, hline, PerService.map]

theorem exec_setAccount (p : Port) (account : Byte) (block : SettingsBlock) (s : State) :
    exec (.setAccount p account block) s =
      .next (s.serve p (Instr.setAccount p account block).requestBytes (setAccountWork account block)) := rfl

/-- Settles O24: with good operands SET ACCOUNT turns on R15's line test alone. -/
theorem setAccount : Obligations.SetAccount := by
  unfold Obligations.SetAccount
  intro s a bh bc lh lc ph pc retail office share
  simp only [← State.lineClash_iff, exec_setAccount, Host.Outcome.next.injEq, ← flagOf_eq_toNat]
  intro h
  refine ⟨fun hclash => State.serve_of_refuse h fun t hacc _ => ?_,
    fun hfree => State.serve_of_setAccount h fun t hacc _ => ?_⟩
  · rw [setAccountWork_eq (basis := ⟨bh, bc⟩) (line := ⟨lh, lc⟩) rfl rfl, State.lineClash_congr hacc, if_pos hclash]
  · rw [setAccountWork_eq (basis := ⟨bh, bc⟩) (line := ⟨lh, lc⟩) rfl rfl, State.lineClash_congr hacc, if_neg hfree, hacc]
    rfl

end Sys2Proof.Machine
end

section
/-!
PROOF. What one settle computes, summed over the 48 accounts: redirected energy keeps its total, floor shares leave a
remainder, an account that does not stand receives nothing, and the statements O42 and O43 from these (R98 to R106).
-/

namespace Sys2Proof

/-! ## Redirected sums and floor shares -/

/-- Gathering each position's value at the position it goes to keeps the total. -/
theorem sumOver_redirect {n : Nat} (dest : Fin n → Fin n) (f : Fin n → Nat) :
    (sumOver n fun a => sumOver n fun x => if dest x = a then f x else 0) = sumOver n f := by
  rw [sumOver_swap]
  exact sumOver_congr fun x => sumOver_single n (dest x) (f x)

/-- One position's extra value adds to the total once. -/
theorem sumOver_add_at {n : Nat} (f : Fin n → Nat) (k : Fin n) (v : Nat) :
    (sumOver n fun i => f i + if i = k then v else 0) = sumOver n f + v := by
  simp only [sumOver_add, eq_comm (b := k), sumOver_single]

/-- The floors of one amount's shares by weight never exceed the amount. -/
theorem sumOver_floor_le (n c : Nat) (w : Fin n → Nat) : (sumOver n fun i => c * w i / sumOver n w) ≤ c := by
  rcases Nat.eq_zero_or_pos (sumOver n w) with hw | hw
  · simp only [hw, Nat.div_zero, sumOver_zero, Nat.zero_le]
  · refine Nat.le_of_mul_le_mul_left ?_ hw
    calc sumOver n w * sumOver n (fun i => c * w i / sumOver n w)
        = sumOver n (fun i => sumOver n w * (c * w i / sumOver n w)) := (sumOver_mul _ _ _).symm
      _ ≤ sumOver n (fun i => c * w i) := sumOver_le n fun i => Nat.mul_div_le (c * w i) (sumOver n w)
      _ = c * sumOver n w := sumOver_mul _ _ _
      _ = sumOver n w * c := Nat.mul_comm _ _

namespace Machine

variable (b : Bank) (rs : List (PerService Reading)) (sv : Service)

/-! ## The totals of COMPUTE (R98, R99, R101) -/

theorem Bank.sumOver_credited (f : AccountNo → Nat) : sumOver 48 (b.credited f) = sumOver 48 f :=
  sumOver_redirect b.creditTo f

theorem Bank.sumOver_poolShare (p : Pool) :
    sumOver 48 (b.poolShare sv p) + b.poolRemainder sv p = b.poolEnergy sv p := by
  have floors : sumOver 48 (b.poolShare sv p) ≤ b.poolEnergy sv p := by
    rw [sumOver_congr fun a => b.poolShare_eq sv a p]
    exact sumOver_floor_le 48 (b.poolEnergy sv p) (b.weight p)
  exact Nat.add_sub_cancel' floors

theorem Bank.sumOver_lossShare : sumOver 48 (b.lossShare rs sv) + b.lossRemainder rs sv = b.lossL rs sv := by
  have floors : sumOver 48 (b.lossShare rs sv) ≤ b.lossL rs sv := by
    rw [sumOver_congr fun a => b.lossShare_eq rs sv a]
    exact sumOver_floor_le 48 (b.lossL rs sv) (b.lossPart rs sv)
  exact Nat.add_sub_cancel' floors

theorem Bank.sumOver_shares :
    sumOver 48 (b.shares sv) = sumOver 48 (b.poolShare sv .retail) + sumOver 48 (b.poolShare sv .office) :=
  sumOver_add 48 (b.poolShare sv .retail) (b.poolShare sv .office)

theorem Bank.sumOver_common : sumOver 48 (b.common sv) = b.commonC sv := by
  calc sumOver 48 (b.common sv)
      = sumOver 48 (b.shares sv) + (b.poolRemainder sv .retail + b.poolRemainder sv .office) := by
        rw [← sumOver_redirect b.shareTo (b.shares sv)]
        exact sumOver_add_at _ 0 _
    _ = (sumOver 48 (b.poolShare sv .retail) + b.poolRemainder sv .retail) +
          (sumOver 48 (b.poolShare sv .office) + b.poolRemainder sv .office) := by
        rw [b.sumOver_shares, Nat.add_add_add_comm]
    _ = b.commonC sv := by
        rw [b.sumOver_poolShare, b.sumOver_poolShare]
        rfl

theorem Bank.sumOver_loss : sumOver 48 (b.loss rs sv) = b.lossL rs sv :=
  (sumOver_add_at (b.lossShare rs sv) 0 _).trans (b.sumOver_lossShare rs sv)

theorem Bank.sumOver_direct :
    (sumOver 48 fun a => b.credited (b.meteredIn sv) a + b.credited (b.estimatedIn rs sv) a) =
      b.meteredD sv + b.estimatedD rs sv := by
  rw [sumOver_add, b.sumOver_credited, b.sumOver_credited]
  rfl

/-- The total allocated is D + C + L, which is the greater of P and D + C (R100, R105). -/
theorem Bank.sumOver_allocation :
    (sumOver 48 fun a => (b.serviceResult rs a sv).allocation) =
      max (b.plantP sv) (b.meteredD sv + b.estimatedD rs sv + b.commonC sv) := by
  calc (sumOver 48 fun a => (b.serviceResult rs a sv).allocation)
      = b.meteredD sv + b.estimatedD rs sv + b.commonC sv + b.lossL rs sv := by
        rw [← b.sumOver_direct rs sv, ← b.sumOver_common sv, ← b.sumOver_loss rs sv, ← sumOver_add, ← sumOver_add]
        rfl
    _ = max (b.plantP sv) (b.meteredD sv + b.estimatedD rs sv + b.commonC sv) := by
        unfold Bank.lossL Bank.accounted
        omega

/-- Settles O42: each component of the allocations keeps its total, so they add up to D + C + L. -/
theorem conservationLaw : Obligations.ConservationLaw := by
  unfold Obligations.ConservationLaw
  intro b rs sv
  simp only [Bank.results_get, Bank.results_figures]
  exact ⟨b.sumOver_direct rs sv, b.sumOver_common sv, b.sumOver_loss rs sv, rfl, b.sumOver_allocation rs sv,
    b.sumOver_poolShare sv, b.sumOver_lossShare rs sv⟩

/-! ## Where an account's energy goes (R98, R99) -/

section Destination

variable {b} {a x l : AccountNo}

/-- Direct energy is credited to account 0 or to an account that stands. -/
theorem Bank.standing_of_creditTo (h : b.creditTo x = a) (ha : a ≠ 0) : b.standing a = true := by
  unfold Bank.creditTo at h
  split at h
  · next hx => exact h ▸ hx
  · split at h
    · next hx =>
      obtain ⟨-, l, hl, hstands⟩ := (b.extendsLower_iff x).1 hx
      rw [hl] at h
      exact h ▸ hstands
    · exact absurd h.symm ha

/-- Pool shares go to account 0 or to an account that stands. -/
theorem Bank.standing_of_shareTo (h : b.shareTo x = a) (ha : a ≠ 0) : b.standing a = true := by
  unfold Bank.shareTo at h
  split at h
  · next hx => exact h ▸ hx
  · exact absurd h.symm ha

theorem Bank.shareTo_of_not_standing (h : b.standing a = false) : b.shareTo a = 0 := by
  simp [Bank.shareTo, h]

theorem Bank.creditTo_of_not_extendsLower (h : b.standing a = false) (hext : b.extendsLower a = false) :
    b.creditTo a = 0 := by
  simp [Bank.creditTo, h, hext]

theorem Bank.creditTo_of_extendsLower (h : b.standing a = false) (hl : lowerOf a = some l)
    (hext : b.extendsLower a = true) : b.creditTo a = l := by
  simp [Bank.creditTo, h, hl, hext]

theorem Bank.extendsLower_of_joined (h : (b.accounts.get a).recorded = .joined) (hl : lowerOf a = some l) :
    b.extendsLower a = b.standing l := by
  simp [Bank.extendsLower, Bank.joined, h, hl]

theorem Bank.extendsLower_of_not_joined (h : (b.accounts.get a).recorded ≠ .joined) : b.extendsLower a = false := by
  simp [Bank.extendsLower, Bank.joined, h]

end Destination

/-! ## An account that does not stand receives nothing (R106) -/

section NotStanding

variable {b sv} {a : AccountNo}

theorem Bank.standing_eq_false_iff : b.standing a = false ↔
    (b.accounts.get a).recorded ≠ .occupied ∧ (b.accounts.get a).recorded ≠ .closing := by
  rw [← Bool.not_eq_true, b.standing_iff, not_or]

theorem Bank.poolShare_of_joined (h : (b.accounts.get a).recorded = .joined) (p : Pool) : b.poolShare sv p a = 0 := by
  have weight : b.weight p a = 0 := by simp [Bank.weight, Bank.joined, h]
  rw [b.poolShare_eq, weight, Nat.mul_zero, Nat.zero_div]

theorem Bank.lossPart_of_not_standing (h : b.standing a = false) : b.lossPart rs sv a = 0 := by
  simp [Bank.lossPart, h]

theorem Bank.credited_of_not_standing (ha : a ≠ 0) (h : b.standing a = false) (f : AccountNo → Nat) :
    b.credited f a = 0 := by
  have elsewhere (x : AccountNo) : b.creditTo x ≠ a := fun hx => by simp [Bank.standing_of_creditTo hx ha] at h
  simp [Bank.credited, elsewhere, sumOver_zero]

theorem Bank.common_of_not_standing (ha : a ≠ 0) (h : b.standing a = false) : b.common sv a = 0 := by
  have elsewhere (x : AccountNo) : b.shareTo x ≠ a := fun hx => by simp [Bank.standing_of_shareTo hx ha] at h
  simp [Bank.common, elsewhere, sumOver_zero, ha]

theorem Bank.loss_of_not_standing (ha : a ≠ 0) (h : b.standing a = false) : b.loss rs sv a = 0 := by
  simp [Bank.loss, Bank.lossShare_eq, Bank.lossPart_of_not_standing rs h, ha]

end NotStanding

/-- Settles O43: nothing is credited to, shared to or laid on a tenant account that does not stand, so its allocation
and its cost are sums of zeros; its own energy leaves by R98 and R99. -/
theorem tenancyLaw : Obligations.TenancyLaw := by
  unfold Obligations.TenancyLaw
  intro b rs sv a ha hoccupied hclosing
  have h : b.standing a = false := Bank.standing_eq_false_iff.2 ⟨hoccupied, hclosing⟩
  have metered := Bank.credited_of_not_standing ha h (b.meteredIn sv)
  have estimated := Bank.credited_of_not_standing ha h (b.estimatedIn rs sv)
  have common := Bank.common_of_not_standing (sv := sv) ha h
  have loss := Bank.loss_of_not_standing rs (sv := sv) ha h
  simp only [Bank.results_get]
  refine ⟨metered, estimated, common, loss, ?allocation, ?cost, Bank.lossPart_of_not_standing rs h,
    fun hjoined => ⟨?redirected, Bank.shareTo_of_not_standing h⟩,
    fun hjoined => ⟨Bank.poolShare_of_joined hjoined .retail, Bank.poolShare_of_joined hjoined .office,
      fun l hodd hnext => ?pair⟩⟩
  case allocation => simp [ServiceResult.allocation, Bank.serviceResult, metered, estimated, common, loss]
  case cost => simp [Bank.serviceResult, metered, estimated, common, loss]
  case redirected => exact Bank.creditTo_of_not_extendsLower h (Bank.extendsLower_of_not_joined hjoined)
  case pair =>
    have hl : lowerOf a = some l := (lowerOf_eq_some a l).2 ⟨hodd, hnext⟩
    have hext := Bank.extendsLower_of_joined hjoined hl
    constructor
    · intro hstands
      exact Bank.creditTo_of_extendsLower h hl (hext.trans ((b.standing_iff l).2 hstands))
    · intro hoccupiedL hclosingL
      exact Bank.creditTo_of_not_extendsLower h
        (hext.trans (Bank.standing_eq_false_iff.2 ⟨hoccupiedL, hclosingL⟩))

end Machine

end Sys2Proof
end

section
/-!
PROOF. CANCEL CLOSE and TAKE STATEMENT: a request refused with NOT-OWNER within its port, what each request answers case by
case, what the removal of a statement does to its account (R125, R133, R134), and the statements O27 and O28 from these.
-/

namespace Sys2Proof.Machine

/-- The pairs of R17, from the lower account. -/
theorem upperOf_eq_some (a w : AccountNo) : upperOf a = some w ↔ a.val % 2 = 1 ∧ w.val = a.val + 1 := by
  unfold upperOf
  split
  · simp only [Option.some.injEq, Fin.ext_iff]
    omega
  · simp only [reduceCtorEq, false_iff]
    omega

/-! ## Requests that leave the store as it was (R140, R176) -/

section Intake

variable {s : State} {p : Port} {frame : List Byte} {work : State → Answer}

theorem State.slot_of_intake_held (h : s.intake p frame = .held) : (s.port p).slot = .request frame := by
  unfold State.intake at h
  split at h
  · cases h
  · split at h
    · assumption
    · split at h
      · cases h
      · split at h <;> cases h

theorem State.slot_of_intake_taken (h : s.intake p frame = .taken) : (s.port p).slot = .empty := by
  unfold State.intake at h
  split at h
  · cases h
  · split at h
    · cases h
    · split at h
      · cases h
      · split at h
        · assumption
        · cases h

/-- A request the ownership test refuses is answered within its port: no grant, so a PORT-FRAME raise that waits still
waits (R140). -/
theorem State.serve_of_notOwner (hown : ownerAllows p frame = false)
    (hi : s.intake p frame = .held ∨ s.intake p frame = .taken) :
    s.serve p frame work = { s with
      ports := s.ports.set p { s.answered p .notOwner [] with framePending := (s.port p).framePending } } := by
  rcases hi with held | taken
  · have hslot := State.slot_of_intake_held held
    simp [State.serve, held, hown, State.complete, State.setPort, State.answered, hslot]
  · have hslot : (s.ports.get p).slot = .empty := State.slot_of_intake_taken taken
    simp [State.serve, taken, hown, State.takeRequest, State.complete, State.setPort, State.port, State.answered, hslot]

/-- Work that answers without a write leaves the port's reply alone. -/
theorem State.serve_of_unchanged {result : Result} {data : List Byte} (h : s.grantsRequest p frame = true)
    (hwork : ∀ t : State, t.period = s.period → t.stagedClose = s.stagedClose → t.queue = s.queue →
      work t = ⟨t, result, data⟩) :
    s.serve p frame work = s.afterRequest p result data :=
  State.serve_eq h fun _ _ _ hans => by
    obtain rfl := hans.symm.trans (hwork _ rfl rfl rfl)
    exact ⟨rfl, rfl, rfl, rfl⟩

end Intake

/-! ## CANCEL CLOSE (R125) -/

theorem cancelCloseWork_of_staged {s : State} (h : s.stagedClose = true) :
    cancelCloseWork s = .ok { s with stagedClose := false } (bigEndian 2 s.period ++ [0#8]) := by
  rw [cancelCloseWork, if_pos h]
  rfl

theorem cancelCloseWork_of_not_staged {s : State} (h : s.stagedClose = false) :
    cancelCloseWork s = ⟨s, .wrongState, bigEndian 2 s.period ++ [0#8]⟩ := by
  simp [cancelCloseWork, periodAnswer, State.periodBytes, flagByte, h]

theorem exec_cancelClose (p : Port) (s : State) :
    exec (.cancelClose p) s = .next (s.serve p (Instr.cancelClose p).requestBytes cancelCloseWork) := rfl

/-- Settles O27: with a close staged and without one by the equation of the work, on the Plant Port by the ownership test. -/
theorem cancelClose : Obligations.CancelClose := by
  unfold Obligations.CancelClose
  intro s
  simp only [exec_cancelClose, Host.Outcome.next.injEq]
  refine ⟨fun h => ⟨fun hstaged => ?staged, fun hnone => ?none⟩, fun hi => ?plant⟩
  case staged =>
    refine State.serve_eq h fun _ _ _ hans => ?_
    obtain rfl := hans.symm.trans (cancelCloseWork_of_staged hstaged)
    exact ⟨rfl, rfl, rfl, rfl⟩
  case none =>
    refine State.serve_of_unchanged h fun t hperiod hclose _ => ?_
    rw [cancelCloseWork_of_not_staged (hclose.trans hnone), hperiod]
  case plant => exact State.serve_of_notOwner (by decide) hi

/-! ## The removal of a statement (R134) -/

/-- The record of an account whose FINAL statement is removed: VACANT, after the vacancy reset. -/
def Account.vacated (r : Account) : Account := { r.vacancyReset with tenancy := .vacant }

section Release

variable {s : State} {x : Statement}

theorem State.releaseStatement_of_period (h : x.kind = .period) : s.releaseStatement x = s := by
  simp [State.releaseStatement, h]

theorem State.releaseStatement_of_final (h : x.kind = .final) : s.releaseStatement x = s.vacate x.account := by
  simp [State.releaseStatement, h]

theorem State.vacate_of_upperOf {a w : AccountNo} (hw : upperOf a = some w) :
    s.vacate a =
      if (s.account w).tenancy = .joined
      then (s.setAccount a (s.account a).vacated).setAccount w (s.account w).resetWork
      else s.setAccount a (s.account a).vacated := by
  have hne : a ≠ w := by
    rintro rfl
    have hval := ((upperOf_eq_some a a).1 hw).2
    omega
  have hkept (r : Account) : (s.setAccount a r).account w = s.account w := s.accounts.get_set_ne r hne
  simp only [State.vacate, hw, hkept]
  rfl

theorem State.vacate_of_joined {a w : AccountNo} (hw : upperOf a = some w) (hjoined : (s.account w).tenancy = .joined) :
    s.vacate a = (s.setAccount a (s.account a).vacated).setAccount w (s.account w).resetWork := by
  rw [State.vacate_of_upperOf hw, if_pos hjoined]

theorem State.vacate_of_not_joined {a : AccountNo} (h : ∀ w, upperOf a = some w → (s.account w).tenancy ≠ .joined) :
    s.vacate a = s.setAccount a (s.account a).vacated := by
  cases hw : upperOf a with
  | none => simp only [State.vacate, hw, Account.vacated]
  | some w => rw [State.vacate_of_upperOf hw, if_neg (h w hw)]

end Release

/-! ## TAKE STATEMENT (R133) -/

theorem takeStatementWork_of_nil {s : State} (h : s.queue = []) : takeStatementWork s = ⟨s, .empty, [0#8]⟩ := by
  simp [takeStatementWork, h]

theorem takeStatementWork_of_cons {s : State} {x : Statement} {rest : List Statement} (h : s.queue = x :: rest) :
    takeStatementWork s =
      .ok ({ s with queue := rest }.releaseStatement x) (BitVec.ofNat 8 rest.length :: x.bytes) := by
  simp [takeStatementWork, h, byteOf]

theorem exec_takeStatement (p : Port) (s : State) :
    exec (.takeStatement p) s = .next (s.serve p (Instr.takeStatement p).requestBytes takeStatementWork) := rfl

/-- A granted TAKE STATEMENT removes the head and writes the account table as the release of the head does. -/
theorem State.serve_takeStatementWork {s : State} {p : Port} {frame : List Byte} {x : Statement} {rest : List Statement}
    {accounts : Table Account 48} (h : s.grantsRequest p frame = true) (hqueue : s.queue = x :: rest)
    (hrelease : ∀ t : State, t.accounts = s.accounts → t.releaseStatement x = { t with accounts := accounts }) :
    s.serve p frame takeStatementWork =
      { s.afterRequest p .ok (BitVec.ofNat 8 rest.length :: x.bytes) with queue := rest, accounts := accounts } := by
  have hwork (t : State) (hacc : t.accounts = s.accounts) (hq : t.queue = s.queue) : takeStatementWork t =
      .ok { t with queue := rest, accounts := accounts } (BitVec.ofNat 8 rest.length :: x.bytes) := by
    rw [takeStatementWork_of_cons (hq.trans hqueue), hrelease { t with queue := rest } hacc]
  refine State.serve_eq h fun _ _ _ hans => ?_
  obtain rfl := hans.symm.trans (hwork _ rfl rfl)
  exact ⟨rfl, rfl, rfl, rfl⟩

/-- Settles O28: the head is removed, and the account table is the release's, by the statement's kind and the tenancy of
the account above. -/
theorem takeStatement : Obligations.TakeStatement := by
  unfold Obligations.TakeStatement
  intro s
  simp only [exec_takeStatement, Host.Outcome.next.injEq]
  intro h
  refine ⟨fun hempty => ?empty, fun x rest hqueue => ⟨fun hperiod => ?period, fun hfinal =>
    ⟨fun w hodd hnext hjoined => ?joined, fun hnotJoined => ?alone⟩⟩⟩
  case empty =>
    exact State.serve_of_unchanged h fun t _ _ hq => takeStatementWork_of_nil (hq.trans hempty)
  case period =>
    refine State.serve_takeStatementWork (accounts := s.accounts) h hqueue fun t ht => ?_
    rw [State.releaseStatement_of_period hperiod, ← ht]
  case joined =>
    refine State.serve_takeStatementWork h hqueue fun t ht => ?_
    have hacc (b : AccountNo) : t.account b = s.account b := congrArg (·.get b) ht
    rw [State.releaseStatement_of_final hfinal, State.vacate_of_joined
      ((upperOf_eq_some _ w).2 ⟨hodd, hnext⟩) ((congrArg Account.tenancy (hacc w)).trans hjoined), hacc, hacc, ← ht]
    rfl
  case alone =>
    refine State.serve_takeStatementWork h hqueue fun t ht => ?_
    have hacc (b : AccountNo) : t.account b = s.account b := congrArg (·.get b) ht
    have hlone (w : AccountNo) (hw : upperOf x.account = some w) : (t.account w).tenancy ≠ .joined := by
      obtain ⟨hodd, hnext⟩ := (upperOf_eq_some _ w).1 hw
      rw [hacc]
      exact hnotJoined w hnext hodd
    rw [State.releaseStatement_of_final hfinal, State.vacate_of_not_joined hlone, hacc, ← ht]
    rfl

end Sys2Proof.Machine
end

section
/-!
PROOF. ACK NOTICES: what an acknowledgement leaves of an entry and of the Fault Table, the positions it frees, what a
granted request leaves that writes the Fault Table alone (R163, R164), and the statement O31 from these.
-/

namespace Sys2Proof.Machine

/-! ## What an acknowledgement leaves of the Fault Table (R163, R164) -/

/-- An acknowledged entry stays, without the port's notice, as long as its condition or the other port's notice holds it. -/
theorem FaultEntry.ack_eq (e : FaultEntry) (p : Port) :
    e.ack p = if e.active || e.notice.get p.other then some { e with notice := e.notice.set p false } else none := by
  cases p <;> simp [FaultEntry.ack, FaultEntry.kept, PerPort.set, PerPort.get, Port.other, or_comm]

section Acknowledged

variable (f : Faults) (p : Port) (selection : Word) (i : Position)

theorem Faults.ack_entries_get (overflowClear : Bool) :
    (f.ack p selection overflowClear).entries.get i =
      if f.acked p selection i then (f.entries.get i).bind fun e => e.ack p else f.entries.get i := by
  simp [Faults.ack]

theorem Faults.ack_overflow (clear : Byte) :
    (f.ack p selection (flagOf clear)).overflow = if clear = 0#8 then f.overflow else f.overflow.set p false := by
  by_cases h : clear = 0#8 <;> simp [Faults.ack, flagOf, h]

/-- The freed positions are the acknowledged ones that the table holds no entry at afterwards. -/
theorem Faults.freedBy_eq (overflowClear : Bool) :
    f.freedBy p selection i =
      (f.acked p selection i && ((f.ack p selection overflowClear).entries.get i).isNone) := by
  rw [Faults.ack_entries_get, Faults.freedBy]
  cases f.acked p selection i with
  | false => rfl
  | true => cases f.entries.get i with
    | none => rfl
    | some e => rfl

end Acknowledged

/-! ## ACK NOTICES (R163) -/

/-- Work that on any state with the table the grant finds writes the Fault Table alone leaves that write and the reply. -/
theorem State.serve_of_setFaults {s : State} {p : Port} {frame data : List Byte} {work : State → Answer} {g : Faults}
    (h : s.grantsRequest p frame = true)
    (hwork : ∀ t : State, t.faults = s.faultsAt p → work t = .ok { t with faults := g } data) :
    s.serve p frame work = { s.afterRequest p .ok data with faults := g } :=
  State.serve_eq h fun _ _ _ hans => by
    obtain rfl := hans.symm.trans (hwork _ rfl)
    exact ⟨rfl, rfl, rfl, rfl⟩

/-- The reply shows the cleared and the freed positions and the port's part of the table that the work leaves. -/
theorem ackNoticesWork_eq {t : State} {f g : Faults} {p : Port} {selection : Word} {clear : Byte} (hf : t.faults = f)
    (hg : f.ack p selection (flagOf clear) = g) :
    ackNoticesWork p selection clear t = .ok { t with faults := g }
      (bigEndian 4 (positionMap (f.acked p selection)).toNat ++
       bigEndian 4 (positionMap fun i => f.acked p selection i && (g.entries.get i).isNone).toNat ++
       g.portBytes p) := by
  have hfreed : f.freedBy p selection = fun i => f.acked p selection i && (g.entries.get i).isNone :=
    funext fun i => hg ▸ f.freedBy_eq p selection i (flagOf clear)
  simp only [ackNoticesWork, hf, hg, hfreed]

theorem exec_ackNotices (p : Port) (selection : Word) (clear : Byte) (s : State) :
    exec (.ackNotices p selection clear) s =
      .next (s.serve p (Instr.ackNotices p selection clear).requestBytes (ackNoticesWork p selection clear)) := rfl

/-- Settles O31: the table left is the acknowledged one, read position by position, and the request writes nothing else. -/
theorem ackNotices : Obligations.AckNotices := by
  unfold Obligations.AckNotices
  intro s p selection clear h f hit cleared stays
  refine ⟨_, f.ack p selection (flagOf clear), exec_ackNotices p selection clear s, fun i => ?entries, ?table, ?state⟩
  case entries =>
    rw [Faults.ack_entries_get]
    simp only [FaultEntry.ack_eq]
    rfl
  case table => rw [← Faults.ack_overflow f p selection clear]; rfl
  case state => exact State.serve_of_setFaults h fun _ hfaults => ackNoticesWork_eq hfaults rfl

end Sys2Proof.Machine
end

section
/-!
PROOF. What a command can do to the store, said once: `StoreOp` lists the store's operations with what each keeps to,
every request's work is a chain of them, and a property that each of them keeps, that no port, pin or engine record takes
part in, and that a resumed settle and a power-on reset keep, is kept by every step.
-/

namespace Sys2Proof.Machine

theorem ite_congr_iff {α : Type} {b c : Prop} [Decidable b] [Decidable c] {x y u v : α} (h : b ↔ c) (hx : x = u) (hy : y = v) :
    (if b then x else y) = if c then u else v :=
  ite_congr (propext h) (fun _ => hx) fun _ => hy

/-! ## The store's operations -/

/-- A slot whose configuration and assignment stay: what a reading, a boundary's reset or a change of state writes. -/
structure MeterSlot.Measured (k k' : MeterSlot) : Prop where
  address : k'.address = k.address
  service : k'.service = k.service
  target : k'.target = k.target
  off : k.state = .off → k'.state = .off
  inRange : k.inRange → k'.inRange

/-- A tenancy change of a tenant account that is not FINAL; its settings, meter positions, totals and settled-through value
stay. -/
structure Account.Moves (a : AccountNo) (r r' : Account) : Prop where
  tenant : a ≠ 0
  notFinal : r.tenancy ≠ .final
  proper : r.proper → r'.proper
  joined : r'.tenancy = .joined → (lowerOf a).isSome = true
  inForce : r'.inForce = r.inForce
  stagedSettings : r'.stagedSettings = r.stagedSettings
  meterPos : r'.meterPos = r.meterPos
  settledThrough : r'.settledThrough = r.settledThrough
  inRange : r.inRange → r'.inRange

/-- The interval number a raise records: that of the running interval, or of the bank of the settle in flight. -/
def State.records (s : State) (n : Nat) : Prop := s.clock.interval = n ∨ ∃ b, s.bank = some b ∧ b.interval = n

/-- One operation on the store, the ports' slots and replies, the arbiter, the supervisor and the capture queue apart. -/
inductive StoreOp : State → State → Prop
  | frontEnd (s : State) (receiver : Receiver) (rate : LineRate) (pins : Option Half) (free : Nat) :
    StoreOp s { s with receiver := receiver, lineRate := rate, linePins := pins, freeSeq := free }
  | port (s : State) (p : Port) (stream : Option Stream) (enables : Enables) :
    StoreOp s (s.setPort p { s.port p with stream := stream, enables := enables })
  | raise (s : State) (c : FaultClass) (sub : Subject) (n : Nat) (h : s.records n) : StoreOp s (s.raise c sub n)
  | endCondition (s : State) (c : FaultClass) (sub : Subject) : StoreOp s (s.endCondition c sub)
  | mask (s : State) (p : Port) (m : Word) :
    StoreOp s { s with faults := { s.faults with mask := s.faults.mask.set p (maskOf m) } }
  | ack (s : State) (p : Port) (selection : Word) (clear : Bool) :
    StoreOp s { s with faults := s.faults.ack p selection clear }
  | meters (s : State) (ms : Table MeterSlot 64) (h : ∀ m, (s.meter m).Measured (ms.get m)) :
    StoreOp s { s with meters := ms }
  | configure (s : State) (m : SlotNo) (k : MeterSlot)
      (address : ∀ n, n ≠ m → (s.meter n).state ≠ .off → (s.meter n).address ≠ k.address)
      (service : (s.meter m).target ≠ .unassigned → k.service = (s.meter m).service)
      (target : k.target = (s.meter m).target) (inRange : (s.meter m).inRange → k.inRange) :
    StoreOp s (s.setMeter m k)
  | detach (s : State) (m : SlotNo) (k : MeterSlot) (address : k.address = (s.meter m).address)
      (off : (s.meter m).state = .off → k.state = .off) (target : k.target = .unassigned)
      (inRange : (s.meter m).inRange → k.inRange) :
    StoreOp s ((s.dropAssignment m).setMeter m k)
  | assign (s : State) (m : SlotNo) (g : Target) (target : (s.meter m).target = .unassigned)
      (free : s.targetFree (s.meter m) g = true) :
    StoreOp s ((s.placeMeter m (s.meter m).service g).setMeter m { s.meter m with target := g, owner := g })
  | work (s : State) (a : AccountNo) (w : PerService Working)
      (h : ∀ sv, ((s.account a).work.get sv).inRange → (w.get sv).inRange) :
    StoreOp s (s.setAccount a { s.account a with work := w })
  | plant (s : State) (sv : Service) (k : PlantSlot)
      (h : (s.plant.get sv).delta ≤ 268435455 → k.delta ≤ 268435455) : StoreOp s (s.setPlant sv k)
  | lines (s : State) (ls : Table RuntimeLine 16)
      (h : ∀ l, (s.lines.get l).count ≤ Config.openSecondsMax → (ls.get l).count ≤ Config.openSecondsMax) :
    StoreOp s { s with lines := ls }
  | noAdvance (s : State) (openMin advanceMin : Half) (window : Byte) :
    StoreOp s { s with noAdvance := noAdvanceOf openMin advanceMin window }
  | clock (s : State) (c : Clock) (store : c.store = s.clock.store) (interval : c.interval = s.clock.interval)
      (h : s.clock.inRange → c.inRange) : StoreOp s (s.setClock c)
  | boundary (s : State) (elapsed : Nat) (store : s.clock.store = .running) (idle : s.settle = .idle) :
    StoreOp s (s.setClock { s.clock with elapsed := elapsed }).boundary
  | alignment (s : State) (elapsed : Nat) (store : s.clock.store = .aligning) :
    StoreOp s (s.setClock { s.clock with elapsed := elapsed }).alignmentBoundary
  | initialise (s : State) (idle : s.settle = .idle) : StoreOp s s.initialise
  | stageClose (s : State) (queue : s.periodQueued = false) (bank : s.closingInFlight = false) :
    StoreOp s { s with stagedClose := true }
  | unstageClose (s : State) : StoreOp s { s with stagedClose := false }
  | takeStatement (s : State) (x : Statement) (rest : List Statement) (h : s.queue = x :: rest) :
    StoreOp s ({ s with queue := rest }.releaseStatement x)
  | tenancy (s : State) (a : AccountNo) (r : Account) (h : (s.account a).Moves a r) : StoreOp s (s.setAccount a r)
  | settings (s : State) (a : AccountNo) (x : Settings) (free : s.lineClash a x.line = false) (inRange : x.inRange) :
    StoreOp s (s.setAccount a { s.account a with stagedSettings := some x })
  | computeRead (s : State) (b : Bank) (rs : List (PerService Reading)) (h : s.settle = .compute b rs) :
    StoreOp s s.computeRead
  | post (s : State) (b : Bank) (r : Results) (a : AccountNo) (h : s.settle = .post b r a) :
    StoreOp s { s.setAccount a ((s.account a).post b a (r.accounts.get a) (r.estimateCredited.get a)) with
      settle := if a = 0 then .closeout b r 0 false else .post b r (nextPost a) }
  | visit (s : State) (b : Bank) (r : Results) (a : AccountNo) (done : Bool) (h : s.settle = .closeout b r a.val done) :
    StoreOp s { s.visitAccount b a with settle := .closeout b r (a.val + 1) done }
  | periodStep (s : State) (b : Bank) (r : Results) (next : Nat) (done : Bool) (h : s.settle = .closeout b r next done) :
    StoreOp s s.periodStep
  | summary (s : State) (b : Bank) (r : Results) (next : Nat) (done : Bool) (h : s.settle = .closeout b r next done) :
    StoreOp s s.summaryWrite

/-- A chain of operations on the store. -/
inductive Stores : State → State → Prop
  | refl {s : State} : Stores s s
  | tail {s t u : State} (h : Stores s t) (h' : StoreOp t u) : Stores s u

theorem StoreOp.chain {s t : State} (h : StoreOp s t) : Stores s t := Stores.refl.tail h

theorem Stores.trans {s t u : State} (h : Stores s t) (h' : Stores t u) : Stores s u := by
  induction h' with
  | refl => exact h
  | tail _ hop ih => exact ih.tail hop

/-! ## Two operations that read back as themselves -/

theorem State.setAccount_account_self (s : State) (a : AccountNo) (r : Account) : (s.setAccount a r).account a = r :=
  s.accounts.get_set_self a r

theorem State.account_setAccount (s : State) (a b : AccountNo) (r : Account) :
    (s.setAccount a r).account b = if a = b then r else s.account b := s.accounts.get_set a b r

theorem State.meter_setMeter (s : State) (m n : SlotNo) (k : MeterSlot) :
    (s.setMeter m k).meter n = if m = n then k else s.meter n := s.meters.get_set m n k

@[simp] theorem State.meter_setMeter_self (s : State) (m : SlotNo) (k : MeterSlot) : (s.setMeter m k).meter m = k :=
  s.meters.get_set_self m k

/-! ## The meters' operations -/

theorem MeterSlot.Measured.refl (k : MeterSlot) : k.Measured k := ⟨rfl, rfl, rfl, id, id⟩

/-- One measured slot written. -/
theorem Stores.setMeter {s : State} {m : SlotNo} {k : MeterSlot} (h : (s.meter m).Measured k) :
    Stores s (s.setMeter m k) := by
  refine (StoreOp.meters s (s.meters.set m k) fun n => ?_).chain
  rw [Table.get_set]
  split
  · next hmn => exact hmn ▸ h
  · exact .refl _

theorem State.records_clock (s : State) : s.records s.clock.interval := .inl rfl

theorem Stores.raise (s : State) (c : FaultClass) (sub : Subject) : Stores s (s.raise c sub s.clock.interval) :=
  (StoreOp.raise s c sub _ s.records_clock).chain

theorem MeterSlot.Measured.state {k : MeterSlot} {st : MeterState} (h : k.state = .off → st = .off) :
    k.Measured { k with state := st } := ⟨rfl, rfl, rfl, h, id⟩

theorem Stores.makeSuspect {s : State} {m : SlotNo} {n : Nat} (hoff : (s.meter m).state ≠ .off) (hn : s.records n) :
    Stores s (s.makeSuspect m n) := by
  refine (Stores.setMeter (m := m) (MeterSlot.Measured.state (st := .suspect) fun h => absurd h hoff)).trans ?_
  unfold State.makeSuspect
  simp only
  split
  · exact (StoreOp.endCondition _ _ _).chain.tail (.raise _ _ _ _ (by exact hn))
  · exact (StoreOp.raise _ _ _ _ (by exact hn)).chain

theorem Stores.endMeterConditions (s : State) (m : SlotNo) : Stores s (s.endMeterConditions m) := by
  unfold State.endMeterConditions
  have late : Stores s (if (s.meter m).state = .late then s.endCondition .meterLate (.meter m) else s) := by
    split
    · exact (StoreOp.endCondition _ _ _).chain
    · exact .refl
  simp only
  split
  · exact late.tail (.endCondition _ _ _)
  · exact late

theorem State.meter_endMeterConditions (s : State) (m n : SlotNo) : (s.endMeterConditions m).meter n = s.meter n := by
  unfold State.endMeterConditions
  simp only
  split <;> split <;> rfl

theorem addSat_le (most a b : Nat) : addSat most a b ≤ most := by unfold addSat; split <;> omega

theorem addSat_eq (most a b : Nat) : addSat most a b = min most (a + b) := by unfold addSat; split <;> omega

theorem clamp_eq {lo hi : Nat} (h : lo ≤ hi) (n : Nat) : clamp lo hi n = max lo (min hi n) := by
  unfold clamp; split
  · omega
  · split <;> omega

theorem MeterSlot.Measured.cleared {k : MeterSlot} {st : MeterState} (h : k.state = .off → st = .off) :
    k.Measured (k.cleared st) :=
  ⟨rfl, rfl, rfl, h, fun ⟨h1, h2, h3, h4, h5, _, _, h8⟩ => ⟨h1, h2, h3, h4, h5, by simp [MeterSlot.cleared],
    by simp [MeterSlot.cleared], h8⟩⟩

theorem MeterSlot.Measured.heard {k : MeterSlot} (h : k.state ≠ .off) (r1 r2 : Word) : k.Measured (k.heard r1 r2) :=
  ⟨rfl, rfl, rfl, fun h' => absurd h' h, fun ⟨h1, h2, h3, h4, h5, h6, _, h8⟩ => ⟨h1, h2, h3, h4, h5, h6,
    by simp [MeterSlot.heard], h8⟩⟩

theorem addEnergy_le (a b : PerService Nat) (sv : Service) : (addEnergy a b).get sv ≤ 268435455 := by
  rw [addEnergy, PerService.get_ofFn]
  exact addSat_le _ _ _

theorem MeterSlot.Measured.gather (k : MeterSlot) (g : Target) (d : PerService Nat) : k.Measured (k.gather g d) :=
  ⟨rfl, rfl, rfl, id, fun ⟨h1, h2, h3, h4, h5, h6, h7, _, h9⟩ => ⟨h1, h2, h3, h4, h5, h6, h7, addEnergy_le _ _, h9⟩⟩

theorem MeterSlot.Measured.hold (k : MeterSlot) (a : AccountNo) (d : PerService Nat) : k.Measured (k.hold a d) :=
  ⟨rfl, rfl, rfl, id, fun ⟨h1, h2, h3, h4, h5, h6, h7, h8, _⟩ => ⟨h1, h2, h3, h4, h5, h6, h7, h8, by
    rintro h ⟨⟩; exact addEnergy_le _ _⟩⟩

/-- Deltas set against balances, the rest gathered. -/
theorem Stores.meetBalance (s : State) (m : SlotNo) (a : AccountNo) (d : PerService Nat) :
    Stores s (s.meetBalance m a d) := by
  refine (StoreOp.work s a ((s.account a).reduce d).work fun sv h => ?_).chain.trans
    (Stores.setMeter (MeterSlot.Measured.gather _ _ _))
  obtain ⟨hcarry, hbalance, hrest⟩ := h
  simp only [Account.reduce, PerService.get_ofFn]
  exact ⟨hcarry, by simp only; omega, hrest⟩

theorem Stores.disposeDeltas (s : State) (m : SlotNo) (d : PerService Nat) : Stores s (s.disposeDeltas m d) := by
  unfold State.disposeDeltas
  split
  · exact .refl
  · exact .setMeter (.gather _ _ _)
  · split
    · exact .setMeter (.hold _ _ _)
    · exact .meetBalance s m _ d

theorem Stores.rejectFrame {s : State} {m : SlotNo} (hoff : (s.meter m).state ≠ .off) (c : FaultClass) :
    Stores s (s.rejectFrame m c) :=
  (Stores.raise s c _).trans (Stores.makeSuspect hoff (State.records_clock _))

theorem Stores.drainError {s : State} {m : SlotNo} (hoff : (s.meter m).state ≠ .off) : Stores s (s.drainError m) := by
  have counted : (s.meter m).Measured { s.meter m with errorStreak := addSat 15 (s.meter m).errorStreak 1 } :=
    ⟨rfl, rfl, rfl, id, fun ⟨h1, h2, h3, h4, h5, h6, _, h8⟩ => ⟨h1, h2, h3, h4, h5, h6, addSat_le _ _ _, h8⟩⟩
  have heard := (Stores.setMeter counted).trans (Stores.raise _ .lineFrame (.meter m))
  unfold State.drainError
  simp only
  split
  · have linked := heard.trans (Stores.raise _ .meterLink (.meter m))
    split
    · exact linked
    · refine linked.trans (Stores.makeSuspect ?_ (State.records_clock _))
      simpa [State.meter] using hoff
  · exact heard

theorem Stores.drainReading {s : State} {m : SlotNo} (hoff : (s.meter m).state ≠ .off) (r1 r2 : Word) (st : Byte) :
    Stores s (s.drainReading m r1 r2 st) := by
  unfold State.drainReading
  simp only
  split
  · exact .rejectFrame hoff _
  · refine (Stores.setMeter (.heard hoff r1 r2)).trans ?_
    split
    · exact (StoreOp.endCondition _ _ _).chain.trans (.disposeDeltas _ m _)
    · exact .disposeDeltas _ m _

theorem Stores.drainEntry (s : State) (e : CaptureEntry) : Stores s (s.drainEntry e) := by
  have off {m : SlotNo} {a : Byte} (h : s.concerns m a = true) : (s.meter m).state ≠ .off := by
    simp only [State.concerns, Bool.and_eq_true, decide_eq_true_eq] at h
    exact h.1
  cases e with
  | error m address kind =>
    simp only [State.drainEntry]
    split
    · next h => exact .drainError (off h)
    · exact .refl
  | frame m address r1 r2 st =>
    simp only [State.drainEntry]
    split
    · next h =>
      unfold State.drainFrame
      split
      · exact .refl
      · split
        · exact .rejectFrame (off h) _
        · exact .setMeter (.heard (off h) _ _)
      · exact .drainReading (off h) r1 r2 st
      · exact .drainReading (off h) r1 r2 st
      · exact .refl
    · exact .refl

theorem Stores.applyHeld (s : State) (m : SlotNo) : Stores s (s.applyHeld m) := by
  unfold State.applyHeld
  split
  · exact .refl
  · exact (Stores.meetBalance s m _ _).trans (.setMeter ⟨rfl, rfl, rfl, id,
      fun ⟨h1, h2, h3, h4, h5, h6, h7, h8, _⟩ => ⟨h1, h2, h3, h4, h5, h6, h7, h8, fun _ h => nomatch h⟩⟩)

end Sys2Proof.Machine
end

section
/-!
PROOF. Every request's work is a chain of operations on the store.
-/

namespace Sys2Proof.Machine

theorem Stores.work {s : State} {a : AccountNo} {w : PerService Working}
    (h : ∀ sv, ((s.account a).work.get sv).inRange → (w.get sv).inRange) :
    Stores s (s.setAccount a { s.account a with work := w }) := (StoreOp.work s a w h).chain

theorem Stores.setPlant {s : State} {sv : Service} {k : PlantSlot}
    (h : (s.plant.get sv).delta ≤ 268435455 → k.delta ≤ 268435455) : Stores s (s.setPlant sv k) :=
  (StoreOp.plant s sv k h).chain

theorem Stores.setClock {s : State} {c : Clock} (store : c.store = s.clock.store) (interval : c.interval = s.clock.interval)
    (h : s.clock.inRange → c.inRange) : Stores s (s.setClock c) := (StoreOp.clock s c store interval h).chain

/-! ## The Plant Port's requests -/

theorem MeterSlot.configured_target (k : MeterSlot) (a : Nat) (v : MeterService) (x : Scale) (sp lt : Nat) :
    (k.configured a v x sp lt).target = k.target := by
  unfold MeterSlot.configured; simp only; split
  · rfl
  · split <;> rfl

theorem MeterSlot.configured_address (k : MeterSlot) (a : Nat) (v : MeterService) (x : Scale) (sp lt : Nat) :
    (k.configured a v x sp lt).address = a := by
  unfold MeterSlot.configured; simp only; split
  · rfl
  · split <;> rfl

theorem MeterSlot.configured_service (k : MeterSlot) (a : Nat) (v : MeterService) (x : Scale) (sp lt : Nat) :
    (k.configured a v x sp lt).service = v := by
  unfold MeterSlot.configured; simp only; split
  · rfl
  · split <;> rfl

theorem MeterSlot.configured_inRange {k : MeterSlot} (h : k.inRange) (a sp lt : Nat) (v : MeterService) (x : Scale) :
    (k.configured (clamp 1 250 a) v x (clamp 0 Config.energyCap sp) (clamp 1 15 lt)).inRange := by
  obtain ⟨-, -, -, -, -, hmissed, hstreak, hacc, hheld⟩ := h
  rw [clamp_eq (by decide), clamp_eq (by decide), clamp_eq (by decide)]
  have hcap : max 0 (min Config.energyCap sp) ≤ 268435455 := by
    rw [Nat.zero_max]
    exact Nat.min_le_left _ _
  unfold MeterSlot.configured
  simp only
  split
  · exact ⟨by simp only [MeterSlot.cleared]; omega, by simp only [MeterSlot.cleared]; omega, hcap,
      by simp only [MeterSlot.cleared]; omega, by simp only [MeterSlot.cleared]; omega,
      by simp [MeterSlot.cleared], by simp [MeterSlot.cleared], hacc, hheld⟩
  · split <;> exact ⟨by simp only; omega, by simp only; omega, hcap, by simp only; omega, by simp only; omega,
      hmissed, hstreak, hacc, hheld⟩

theorem State.addressTaken_eq_false {s : State} {m : SlotNo} {a : Nat} : s.addressTaken m a = false ↔
    ∀ n, n ≠ m → (s.meter n).state ≠ .off → (s.meter n).address ≠ a := by
  simp [State.addressTaken]

theorem configureMeterWork_stores (slot address service scale : Byte) (spike : Word) (late : Byte) (s : State) :
    Stores s (configureMeterWork slot address service scale spike late s).state := by
  unfold configureMeterWork
  split
  · exact .refl
  · next m _ =>
    split
    · next v x _ _ =>
      simp only
      split
      · exact .refl
      · next htaken =>
        split
        · exact .refl
        · next hassigned =>
          have written : Stores s (s.setMeter m ((s.meter m).configured (clamp 1 250 address.toNat) v x
              (clamp 0 Config.energyCap spike.toNat) (clamp 1 15 late.toNat))) := by
            refine (StoreOp.configure s m _ ?_ ?_ ?_ ?_).chain
            · rw [MeterSlot.configured_address]
              exact State.addressTaken_eq_false.1 (by simpa using htaken)
            · intro ht
              rw [MeterSlot.configured_service]
              refine Classical.byContradiction fun hv => ?_
              exact hassigned ⟨ht, .inl hv⟩
            · exact MeterSlot.configured_target _ _ _ _ _ _
            · exact fun h => MeterSlot.configured_inRange h _ _ _ _ _
          simp only [Answer.ok]
          split
          · exact written.tail (.endCondition _ _ _)
          · exact written
    · exact .refl
    · exact .refl

theorem State.target_endMeterConditions (s : State) (m : SlotNo) :
    ((s.endMeterConditions m).meter m).target = (s.meter m).target := by rw [State.meter_endMeterConditions]

theorem retireMeterWork_stores (slot : Byte) (s : State) : Stores s (retireMeterWork slot s).state := by
  unfold retireMeterWork
  split
  · exact .refl
  · next m _ =>
    simp only
    split
    · exact .refl
    · next hoff =>
      have detached : Stores s (((s.endMeterConditions m).dropAssignment m).setMeter m
          { (s.meter m).cleared .off with target := .unassigned }) := by
        refine (Stores.endMeterConditions s m).tail (.detach _ m _ ?_ ?_ rfl ?_)
        · rw [State.meter_endMeterConditions]; rfl
        · exact fun _ => rfl
        · rw [State.meter_endMeterConditions]
          exact (MeterSlot.Measured.cleared (k := s.meter m) fun _ => rfl).inRange
      simp only [Answer.ok]
      split
      · exact detached
      · refine detached.tail (.raise _ _ _ _ (.inl ?_))
        have hclock : ∀ t : State, (t.dropAssignment m).clock = t.clock := by
          intro t; unfold State.dropAssignment; split <;> rfl
        rw [State.setMeter_clock, hclock]
        unfold State.endMeterConditions
        simp only
        split <;> split <;> rfl

theorem Account.clearBalances_inRange {r : Account} {v : MeterService} {sv : Service} (h : (r.work.get sv).inRange) :
    ((r.clearBalances v).work.get sv).inRange := by
  obtain ⟨hcarry, hbalance, hrest⟩ := h
  simp only [Account.clearBalances, PerService.get_ofFn]
  split
  · exact ⟨hcarry, by simp, hrest⟩
  · exact ⟨hcarry, hbalance, hrest⟩

theorem reReferenceMeterWork_stores (slot : Byte) (s : State) : Stores s (reReferenceMeterWork slot s).state := by
  unfold reReferenceMeterWork
  split
  · exact .refl
  · next m _ =>
    split
    · exact .refl
    · split
      · exact .refl
      · next hoff =>
        have balances : Stores s ((s.endMeterConditions m).clearSlotBalances m) := by
          refine (Stores.endMeterConditions s m).trans ?_
          unfold State.clearSlotBalances
          split
          · exact .work fun _ h => Account.clearBalances_inRange h
          · exact .refl
          · exact .refl
        have hmeter : ((s.endMeterConditions m).clearSlotBalances m).meter m = s.meter m := by
          rw [← State.meter_endMeterConditions s m m]
          unfold State.clearSlotBalances
          split <;> rfl
        refine balances.trans (.setMeter ?_)
        rw [hmeter]
        exact .cleared fun h => absurd h hoff

theorem postPlantReadingWork_stores (service : Byte) (count : Word) (s : State) :
    Stores s (postPlantReadingWork service count s).state := by
  unfold postPlantReadingWork
  split
  · exact .refl
  · next sv _ =>
    have held : Stores s (s.setPlant sv { s.plant.get sv with state := .held }) := .setPlant id
    simp only
    split
    · exact .setPlant id
    · exact .refl
    · split
      · exact .setPlant fun _ => addSat_le _ _ _
      · exact held.trans ((Stores.raise _ _ _).trans (.raise _ _ _))
      · exact held.trans ((Stores.raise _ _ _).trans (.raise _ _ _))

theorem reReferencePlantWork_stores (service : Byte) (s : State) : Stores s (reReferencePlantWork service s).state := by
  unfold reReferencePlantWork
  split
  · exact .refl
  · next sv _ =>
    have referenced : Stores s (s.setPlant sv { s.plant.get sv with state := .unreferenced, reference := 0#32 }) :=
      .setPlant id
    simp only [Answer.ok]
    split
    · exact referenced.tail (.endCondition _ _ _)
    · exact referenced

theorem configurePlantWork_stores (service scale : Byte) (s : State) :
    Stores s (configurePlantWork service scale s).state := by
  unfold configurePlantWork
  split
  · exact .refl
  · split
    · exact .refl
    · simp only
      split
      · exact .refl
      · exact .setPlant id

theorem setRuntimeLineWork_stores (line enable polarity : Byte) (s : State) :
    Stores s (setRuntimeLineWork line enable polarity s).state := by
  unfold setRuntimeLineWork
  split
  · exact .refl
  · refine (StoreOp.lines s _ fun l h => ?_).chain
    rw [Table.get_set]
    split
    · next hl => subst hl; exact h
    · exact h

theorem setNoAdvanceWork_stores (openMin advanceMin : Half) (window : Byte) (s : State) :
    Stores s (setNoAdvanceWork openMin advanceMin window s).state := (StoreOp.noAdvance s _ _ _).chain

theorem setBandWork_stores (band : Byte) (s : State) : Stores s (setBandWork band s).state := by
  unfold setBandWork
  split
  · exact .refl
  · exact .setClock rfl rfl id

theorem setIntervalLengthWork_stores (minutes : Byte) (s : State) : Stores s (setIntervalLengthWork minutes s).state := by
  refine .setClock rfl rfl fun ⟨h1, h2, _, h4⟩ => ⟨h1, h2, ?_, h4⟩
  rintro n ⟨⟩
  rw [clamp_eq (by decide)]
  omega

theorem setToleranceWork_stores (tolerance : Half) (s : State) : Stores s (setToleranceWork tolerance s).state := by
  refine .setClock rfl rfl fun ⟨h1, h2, h3, h4, h5, h6, h7, h8, h9, _⟩ => ⟨h1, h2, h3, h4, h5, h6, h7, h8, h9, ?_⟩
  rintro n ⟨⟩
  rw [clamp_eq (by decide)]
  omega

theorem setLineRateWork_stores (rate : Byte) (s : State) : Stores s (setLineRateWork rate s).state := by
  unfold setLineRateWork
  split
  · exact .refl
  · exact (StoreOp.frontEnd s _ _ _ _).chain

theorem State.settleInFlight_eq_false {s : State} : s.settleInFlight = false ↔ s.settle = .idle := by
  unfold State.settleInFlight
  cases s.settle <;> simp

theorem State.settleInFlight_eq_true {s : State} : s.settleInFlight = true ↔ s.settle ≠ .idle := by
  rw [Ne, ← State.settleInFlight_eq_false, Bool.not_eq_false]

theorem State.setClock_elapsed_self (s : State) : s.setClock { s.clock with elapsed := s.clock.elapsed } = s := rfl

theorem markWork_stores (s : State) : Stores s (markWork s).state := by
  unfold markWork
  split
  · exact .refl
  · next h => exact (StoreOp.alignment s s.clock.elapsed h).chain
  · next h =>
    split
    · exact .refl
    · next hidle =>
      split
      · exact (StoreOp.boundary s s.clock.elapsed h (State.settleInFlight_eq_false.1 (by simpa using hidle))).chain
      · refine .setClock rfl rfl fun ⟨h1, h2, h3, h4, h5, h6⟩ => ⟨h1, h2, h3, ?_, ?_, h6⟩
        · exact Nat.zero_le _
        · intro _
          simp only [Clock.limit]
          omega

/-! ## The Billing Port's requests -/

theorem setPricesWork_stores (prices : PerService (PerBand Half)) (s : State) :
    Stores s (setPricesWork prices s).state := by
  refine .setClock rfl rfl fun ⟨h1, h2, h3, h4, h5, h6, h7, _, h9⟩ => ⟨h1, h2, h3, h4, h5, h6, h7, ?_, h9⟩
  rintro x ⟨⟩ sv b
  simp only [pricesOf, PerService.get_map]
  cases b <;> exact Nat.le_of_lt_succ (BitVec.isLt _)

theorem closePeriodWork_stores (s : State) : Stores s (closePeriodWork s).state := by
  unfold closePeriodWork
  split
  · exact .refl
  · split
    · exact .refl
    · split
      · exact .refl
      · next hqueue =>
        split
        · exact .refl
        · next hbank => exact (StoreOp.stageClose s (by simpa using hqueue) (by simpa using hbank)).chain

theorem cancelCloseWork_stores (s : State) : Stores s (cancelCloseWork s).state := by
  unfold cancelCloseWork
  split
  · exact (StoreOp.unstageClose s).chain
  · exact .refl

theorem takeStatementWork_stores (s : State) : Stores s (takeStatementWork s).state := by
  unfold takeStatementWork
  split
  · exact .refl
  · next x rest h => exact (StoreOp.takeStatement s x rest h).chain

theorem initialiseAccountsWork_stores (s : State) : Stores s (initialiseAccountsWork s).state := by
  unfold initialiseAccountsWork
  split
  · exact .refl
  · next h =>
    have idle : s.settle = .idle := State.settleInFlight_eq_false.1 (by simpa using h)
    have accepted := (StoreOp.initialise s idle).chain
    split
    · exact accepted
    · split
      · exact .refl
      · split
        · exact .refl
        · exact accepted

/-- A tenancy change that leaves the record's numbers alone. -/
theorem Stores.move {s : State} {a : AccountNo} {t : Tenancy} {c : Option StagedChange} (ha : a ≠ 0)
    (hnot : (s.account a).tenancy ≠ .final) (hjoin : t = .joined → (lowerOf a).isSome = true)
    (hproper : (s.account a).proper → Account.proper { s.account a with tenancy := t, staged := c }) :
    Stores s (s.setAccount a { s.account a with tenancy := t, staged := c }) :=
  (StoreOp.tenancy s a _ ⟨ha, hnot, hproper, hjoin, rfl, rfl, rfl, rfl, id⟩).chain

theorem moveInWork_stores (account : Byte) (tag : Word) (s : State) : Stores s (moveInWork account tag s).state := by
  unfold moveInWork
  split
  · exact .refl
  · simp only
    split
    · exact .refl
    · split
      · exact .refl
      · next ha =>
        split
        · next hten =>
          refine .move ha (by simp [hten]) (by simp) fun h => ?_
          simp only [Account.proper, hten] at h ⊢
          exact ⟨⟨tag, rfl⟩, h.2⟩
        all_goals exact .refl

theorem moveOutWork_stores (account : Byte) (s : State) : Stores s (moveOutWork account s).state := by
  unfold moveOutWork
  split
  · exact .refl
  · simp only
    split
    · exact .refl
    · next ha =>
      split
      · next hten =>
        refine .move ha (by simp [hten]) (by simp) fun h => ?_
        simp only [Account.proper, hten] at h ⊢
        exact ⟨trivial, h.2⟩
      · next hten =>
        refine .move ha (by simp [hten]) (by simp) fun h => ?_
        simp only [Account.proper, hten] at h ⊢
        exact ⟨trivial, h.2⟩
      all_goals exact .refl

theorem cancelMoveWork_stores (account : Byte) (s : State) : Stores s (cancelMoveWork account s).state := by
  unfold cancelMoveWork
  split
  · exact .refl
  · simp only
    split
    · exact .refl
    · next ha =>
      split
      · next hten =>
        refine .move ha (by simp [hten]) (by simp) fun h => ?_
        simp only [Account.proper, hten] at h ⊢
        exact ⟨trivial, h.2⟩
      · next hten =>
        refine .move ha (by simp [hten]) (by simp) fun h => ?_
        simp only [Account.proper, hten] at h ⊢
        exact ⟨trivial, h.2⟩
      all_goals exact .refl

theorem pairOf_eq_some {lower : Byte} {l u : AccountNo} (h : pairOf lower = some (l, u)) :
    u ≠ 0 ∧ lowerOf u = some l := by
  simp only [pairOf, Option.bind_eq_some_iff, Option.map_eq_some_iff, Prod.mk.injEq] at h
  obtain ⟨x, -, y, hy, rfl, rfl⟩ := h
  obtain ⟨hodd, hnext⟩ := (upperOf_eq_some x y).1 hy
  refine ⟨?_, (lowerOf_eq_some y x).2 ⟨hodd, hnext⟩⟩
  rintro rfl
  simp at hnext

theorem joinPairWork_stores (lower : Byte) (s : State) : Stores s (joinPairWork lower s).state := by
  unfold joinPairWork
  split
  · exact .refl
  · next l u hpair =>
    obtain ⟨hu, hlow⟩ := pairOf_eq_some hpair
    split
    · exact .refl
    · split
      · next h =>
        refine .move hu (by simp [h.2]) (fun _ => by simp [hlow]) fun hp => ?_
        simp only [Account.proper, h.2] at hp ⊢
        exact hp
      · exact .refl

theorem splitPairWork_stores (lower : Byte) (s : State) : Stores s (splitPairWork lower s).state := by
  unfold splitPairWork
  split
  · exact .refl
  · next l u hpair =>
    obtain ⟨hu, hlow⟩ := pairOf_eq_some hpair
    split
    · exact .refl
    · split
      · next h =>
        refine StoreOp.chain (.tenancy s u _ (.mk hu (by simp [h.1]) (fun hp => ?_) (fun h => nomatch h) rfl rfl rfl rfl
          fun ⟨h1, h2, h3, h4, h5, h6⟩ => ⟨h1, h2, fun sv => ?_, h4, Nat.zero_le _, h6⟩))
        · simp only [Account.proper, h.1] at hp
          exact ⟨hp.1, rfl⟩
        · cases sv <;> simp [Account.vacancyReset, Account.resetWork, PerService.get, Working.inRange, Working.zero]
      · exact .refl

theorem settingsOf_inRange (b : SettingsBlock) (basis : PerService Basis) (line : PerService (Option LineNo)) :
    (settingsOf b basis line).inRange :=
  ⟨fun sv => by simpa [settingsOf] using Nat.le_of_lt_succ (BitVec.isLt _), Nat.le_of_lt_succ (BitVec.isLt _),
    Nat.le_of_lt_succ (BitVec.isLt _)⟩

theorem setAccountWork_stores (account : Byte) (block : SettingsBlock) (s : State) :
    Stores s (setAccountWork account block s).state := by
  unfold setAccountWork
  split
  · exact .refl
  · split
    · split
      · split
        · exact .refl
        · next hclash => exact (StoreOp.settings s _ _ (by simpa [settingsOf] using hclash) (settingsOf_inRange _ _ _)).chain
      · exact .refl
      · exact .refl
    · exact .refl
    · exact .refl

theorem assignMeterWork_stores (slot kind number : Byte) (s : State) :
    Stores s (assignMeterWork slot kind number s).state := by
  unfold assignMeterWork
  split
  · exact .refl
  · split
    · exact .refl
    · simp only
      split
      · exact .refl
      · next h =>
        simp only [not_or, Classical.not_not, Bool.not_eq_false] at h
        obtain ⟨-, htarget, -, hfree, -⟩ := h
        exact (StoreOp.assign s _ _ htarget hfree).chain

theorem unassignMeterWork_stores (slot : Byte) (s : State) : Stores s (unassignMeterWork slot s).state := by
  unfold unassignMeterWork
  split
  · exact .refl
  · simp only
    split
    · exact .refl
    · exact StoreOp.chain (.detach s _ _ rfl id rfl id)

/-! ## The requests of both ports -/

theorem setReportMaskWork_stores (p : Port) (mask : Word) (s : State) : Stores s (setReportMaskWork p mask s).state :=
  (StoreOp.mask s p mask).chain

theorem setAtnEnablesWork_stores (p : Port) (enables : Byte) (s : State) :
    Stores s (setAtnEnablesWork p enables s).state := (StoreOp.port s p _ _).chain

theorem ackNoticesWork_stores (p : Port) (selection : Word) (clear : Byte) (s : State) :
    Stores s (ackNoticesWork p selection clear s).state := (StoreOp.ack s p _ _).chain

theorem streamAccountsWork_stores (p : Port) (first count : Byte) (s : State) :
    Stores s (streamAccountsWork p first count s).state := by
  unfold streamAccountsWork
  split
  · exact .refl
  · exact (StoreOp.port s p _ _).chain

theorem Stores.useFree (s : State) (n : Nat) : Stores s (s.useFree n) := (StoreOp.frontEnd s _ _ _ _).chain

theorem readAccountWork_stores (account : Byte) (s : State) : Stores s (readAccountWork account s).state := by
  unfold readAccountWork; split <;> exact .refl

theorem readMeterWork_stores (slot : Byte) (s : State) : Stores s (readMeterWork slot s).state := by
  unfold readMeterWork
  split
  · exact .refl
  · exact .useFree s 2

theorem readPlantWork_stores (service : Byte) (s : State) : Stores s (readPlantWork service s).state := by
  unfold readPlantWork; split <;> exact .refl

theorem readRuntimeWork_stores (levels : Half) (s : State) : Stores s (readRuntimeWork levels s).state :=
  (StoreOp.frontEnd s _ _ _ _).chain

theorem readStatementWork_stores (s : State) : Stores s (readStatementWork s).state := by
  unfold readStatementWork; split <;> exact .refl

theorem readIntervalSummaryWork_stores (age : Byte) (s : State) : Stores s (readIntervalSummaryWork age s).state := by
  unfold readIntervalSummaryWork
  split
  · exact .refl
  · split <;> exact .refl

theorem readFaultEntryWork_stores (position : Byte) (s : State) : Stores s (readFaultEntryWork position s).state := by
  unfold readFaultEntryWork
  split
  · exact .refl
  · split <;> exact .refl

/-- The work of a request, by its command; the refusal of nothing where the command is no request. -/
def requestWork : Instr → State → Answer
  | .configureMeter _ slot address service scale spike late => configureMeterWork slot address service scale spike late
  | .retireMeter _ slot => retireMeterWork slot
  | .reReferenceMeter _ slot => reReferenceMeterWork slot
  | .postPlantReading _ service count => postPlantReadingWork service count
  | .reReferencePlant _ service => reReferencePlantWork service
  | .configurePlant _ service scale => configurePlantWork service scale
  | .setRuntimeLine _ line enable polarity => setRuntimeLineWork line enable polarity
  | .setNoAdvance _ openMin advanceMin window => setNoAdvanceWork openMin advanceMin window
  | .setBand _ band => setBandWork band
  | .setIntervalLength _ minutes => setIntervalLengthWork minutes
  | .setTolerance _ tolerance => setToleranceWork tolerance
  | .setLineRate _ rate => setLineRateWork rate
  | .mark _ => markWork
  | .moveIn _ account tag => moveInWork account tag
  | .moveOut _ account => moveOutWork account
  | .cancelMove _ account => cancelMoveWork account
  | .joinPair _ lower => joinPairWork lower
  | .splitPair _ lower => splitPairWork lower
  | .setAccount _ account block => setAccountWork account block
  | .assignMeter _ slot kind number => assignMeterWork slot kind number
  | .unassignMeter _ slot => unassignMeterWork slot
  | .setPrices _ prices => setPricesWork prices
  | .closePeriod _ => closePeriodWork
  | .cancelClose _ => cancelCloseWork
  | .takeStatement _ => takeStatementWork
  | .initialiseAccounts _ => initialiseAccountsWork
  | .setReportMask p mask => setReportMaskWork p mask
  | .setAtnEnables p enables => setAtnEnablesWork p enables
  | .ackNotices p selection clear => ackNoticesWork p selection clear
  | .readAccount _ account => readAccountWork account
  | .streamAccounts p first count => streamAccountsWork p first count
  | .readClock _ => readClockWork
  | .readMeter _ slot => readMeterWork slot
  | .readPlant _ service => readPlantWork service
  | .readLine _ => readLineWork
  | .readRuntime _ levels => readRuntimeWork levels
  | .readTariff _ => readTariffWork
  | .readStatement _ => readStatementWork
  | .readIntervalSummary _ age => readIntervalSummaryWork age
  | .readFaultMap _ => readFaultMapWork
  | .readFaultEntry _ position => readFaultEntryWork position
  | _ => fun s => .ok s []

end Sys2Proof.Machine
end

section
/-!
PROOF. What a step can do, and the induction that every law is proved by: a property that the store's operations keep, that
no port, pin or engine record takes part in, and that a resumed settle and a power-on reset keep, is kept by every step.
-/

namespace Sys2Proof.Machine

/-! ## Requests -/

theorem requestWork_stores (c : Instr) (s : State) : Stores s (requestWork c s).state := by
  cases c with
  | configureMeter => exact configureMeterWork_stores ..
  | retireMeter => exact retireMeterWork_stores ..
  | reReferenceMeter => exact reReferenceMeterWork_stores ..
  | postPlantReading => exact postPlantReadingWork_stores ..
  | reReferencePlant => exact reReferencePlantWork_stores ..
  | configurePlant => exact configurePlantWork_stores ..
  | setRuntimeLine => exact setRuntimeLineWork_stores ..
  | setNoAdvance => exact setNoAdvanceWork_stores ..
  | setBand => exact setBandWork_stores ..
  | setIntervalLength => exact setIntervalLengthWork_stores ..
  | setTolerance => exact setToleranceWork_stores ..
  | setLineRate => exact setLineRateWork_stores ..
  | mark => exact markWork_stores ..
  | moveIn => exact moveInWork_stores ..
  | moveOut => exact moveOutWork_stores ..
  | cancelMove => exact cancelMoveWork_stores ..
  | joinPair => exact joinPairWork_stores ..
  | splitPair => exact splitPairWork_stores ..
  | setAccount => exact setAccountWork_stores ..
  | assignMeter => exact assignMeterWork_stores ..
  | unassignMeter => exact unassignMeterWork_stores ..
  | setPrices => exact setPricesWork_stores ..
  | closePeriod => exact closePeriodWork_stores ..
  | cancelClose => exact cancelCloseWork_stores ..
  | takeStatement => exact takeStatementWork_stores ..
  | initialiseAccounts => exact initialiseAccountsWork_stores ..
  | setReportMask => exact setReportMaskWork_stores ..
  | setAtnEnables => exact setAtnEnablesWork_stores ..
  | ackNotices => exact ackNoticesWork_stores ..
  | readAccount => exact readAccountWork_stores ..
  | streamAccounts => exact streamAccountsWork_stores ..
  | readClock => exact .useFree s 3
  | readMeter => exact readMeterWork_stores ..
  | readPlant => exact readPlantWork_stores ..
  | readRuntime => exact readRuntimeWork_stores ..
  | readTariff => exact .useFree s 2
  | readStatement => exact readStatementWork_stores ..
  | readIntervalSummary => exact readIntervalSummaryWork_stores ..
  | readFaultEntry => exact readFaultEntryWork_stores ..
  | _ => exact .refl

/-- A request command is served at its port with its own work (R175, R176). -/
theorem exec_request {c : Instr} {p : Port} (hport : c.port = some p) (hbytes : c.requestBytes ≠ []) (s : State) :
    exec c s = .next (s.serve p c.requestBytes (requestWork c)) := by
  cases c with
  | transactionStart | transactionEnd | portFrameRaise | status | fetch | streamRecordPrepare | meterLineCharacter
  | gapExpiry | drainCaptureEntry | applyHeldDeltas | tickEdge | timerExpiry | deferredBoundary | tickLossTimeout
  | computeRead | accountPost | closeoutVisit | periodStep | summaryWrite | vmainFall | vmainRise | holdExit
  | powerOnReset | backupLowChange | warmResetAssert | warmResetRelease | vmainFallBelowRunThreshold =>
    exact absurd rfl hbytes
  | _ => cases hport; rfl

/-! ## Operations of the Settle Engine -/

theorem State.records_congr {s t : State} {n : Nat} (hc : t.clock = s.clock) (hb : t.settle = s.settle)
    (h : s.records n) : t.records n := by
  simpa only [State.records, State.bank, hc, hb] using h

theorem State.raiseSaturated_settle (s : State) (b : Bank) (a : AccountNo) (x : Bool) (S : Settle) :
    { s.raiseSaturated b a x with settle := S } = { s with settle := S }.raiseSaturated b a x := by
  simp only [State.raiseSaturated_eq]

theorem State.raiseNoBasis_settle (s : State) (b : Bank) (a : AccountNo) (x : ServiceResult) (S : Settle) :
    { s.raiseNoBasis b a x with settle := S } = { s with settle := S }.raiseNoBasis b a x := by
  simp only [State.raiseNoBasis_eq]

theorem State.raiseBalance_settle (s : State) (b : Bank) (sv : Service) (x : Figures) (S : Settle) :
    { s.raiseBalance b sv x with settle := S } = { s with settle := S }.raiseBalance b sv x := by
  simp only [State.raiseBalance_eq]

theorem State.tripSlot_settle (s : State) (b : Bank) (a : AccountNo) (sv : Service) (x : PerService ServiceResult)
    (S : Settle) :
    { s.tripSlot b a sv (x.get sv) with settle := S } = { s with settle := S }.tripSlot b a sv (x.get sv) := by
  simp only [State.tripSlot_eq]
  rfl

theorem Stores.raiseSaturated {s : State} {b : Bank} (h : s.records b.interval) (a : AccountNo) (x : Bool) :
    Stores s (s.raiseSaturated b a x) := by
  unfold State.raiseSaturated
  split
  · exact (StoreOp.raise _ _ _ _ h).chain
  · exact .refl

theorem Stores.raiseNoBasis {s : State} {b : Bank} (h : s.records b.interval) (a : AccountNo) (x : ServiceResult) :
    Stores s (s.raiseNoBasis b a x) := by
  unfold State.raiseNoBasis
  split
  · exact (StoreOp.raise _ _ _ _ h).chain
  · exact .refl

theorem Stores.raiseBalance {s : State} {b : Bank} (h : s.records b.interval) (sv : Service) (x : Figures) :
    Stores s (s.raiseBalance b sv x) := by
  unfold State.raiseBalance
  split
  · exact .refl
  · exact (StoreOp.raise _ _ _ _ h).chain
  · exact (StoreOp.raise _ _ _ _ h).chain

theorem Stores.tripSlot {s : State} {b : Bank} (h : s.records b.interval) (a : AccountNo) (sv : Service)
    (x : ServiceResult) : Stores s (s.tripSlot b a sv x) := by
  unfold State.tripSlot
  split
  · exact .refl
  · next m _ =>
    have tripped : Stores s (s.raise .meterNoAdvance (.meter m) b.interval) := (StoreOp.raise _ _ _ _ h).chain
    simp only
    split
    · next hlive => exact tripped.trans (.makeSuspect (by simp [hlive.1]) h)
    · exact tripped

/-- The faults of one account's post and the slots its trips make SUSPECT, its record apart (R109 to R111). -/
def State.postFaults (s : State) (b : Bank) (r : Results) (a : AccountNo) (stopped : Bool) : State :=
  let x := r.accounts.get a
  let t := s.raiseSaturated b a stopped
  let t := (t.raiseNoBasis b a x.heating).raiseNoBasis b a x.cooling
  let t := (t.tripSlot b a .heating x.heating).tripSlot b a .cooling x.cooling
  if a = 0 then
    (t.raiseBalance b .heating r.figures.heating).raiseBalance b .cooling r.figures.cooling
  else t

theorem State.postFaults_settle (s : State) (b : Bank) (r : Results) (a : AccountNo) (stopped : Bool) (S : Settle) :
    { s.postFaults b r a stopped with settle := S } = { s with settle := S }.postFaults b r a stopped := by
  have heat (t : State) : { t.tripSlot b a .heating (r.accounts.get a).heating with settle := S } =
      { t with settle := S }.tripSlot b a .heating (r.accounts.get a).heating := t.tripSlot_settle b a .heating _ S
  have cool (t : State) : { t.tripSlot b a .cooling (r.accounts.get a).cooling with settle := S } =
      { t with settle := S }.tripSlot b a .cooling (r.accounts.get a).cooling := t.tripSlot_settle b a .cooling _ S
  unfold State.postFaults
  simp only
  split
  · rw [State.raiseBalance_settle, State.raiseBalance_settle, cool, heat, State.raiseNoBasis_settle,
      State.raiseNoBasis_settle, State.raiseSaturated_settle]
  · rw [cool, heat, State.raiseNoBasis_settle, State.raiseNoBasis_settle, State.raiseSaturated_settle]

theorem State.tripSlot_records {s : State} {b : Bank} {n : Nat} (h : s.records n) (a : AccountNo) (sv : Service)
    (x : PerService ServiceResult) : (s.tripSlot b a sv (x.get sv)).records n := by
  rw [State.tripSlot_eq]
  exact h

theorem Stores.postFaults {s : State} {b : Bank} (h : s.records b.interval) (r : Results) (a : AccountNo)
    (stopped : Bool) : Stores s (s.postFaults b r a stopped) := by
  have h1 := Stores.raiseSaturated h a stopped
  have k1 : (s.raiseSaturated b a stopped).records b.interval := by rw [State.raiseSaturated_eq]; exact h
  have h2 := Stores.raiseNoBasis k1 a (r.accounts.get a).heating
  have k2 : ((s.raiseSaturated b a stopped).raiseNoBasis b a (r.accounts.get a).heating).records b.interval := by
    rw [State.raiseNoBasis_eq]; exact k1
  have h3 := Stores.raiseNoBasis k2 a (r.accounts.get a).cooling
  have k3 : (((s.raiseSaturated b a stopped).raiseNoBasis b a (r.accounts.get a).heating).raiseNoBasis b a
      (r.accounts.get a).cooling).records b.interval := by
    rw [State.raiseNoBasis_eq]; exact k2
  have h4 := Stores.tripSlot k3 a .heating (r.accounts.get a).heating
  have k4 := State.tripSlot_records (b := b) k3 a .heating (r.accounts.get a)
  have h5 := Stores.tripSlot (b := b) k4 a .cooling (r.accounts.get a).cooling
  have k5 := State.tripSlot_records (b := b) k4 a .cooling (r.accounts.get a)
  have posted := (((h1.trans h2).trans h3).trans h4).trans h5
  unfold State.postFaults
  simp only
  split
  · refine (posted.trans (Stores.raiseBalance k5 .heating r.figures.heating)).trans (.raiseBalance ?_ _ _)
    rw [State.raiseBalance_eq]
    exact k5
  · exact posted

theorem State.accountPost_eq {s : State} {b : Bank} {r : Results} {a : AccountNo} (h : s.settle = .post b r a) :
    s.accountPost = State.postFaults
      { s.setAccount a ((s.account a).post b a (r.accounts.get a) (r.estimateCredited.get a)) with
        settle := if a = 0 then .closeout b r 0 false else .post b r (nextPost a) }
      b r a (b.standing a && (s.account a).totals.stops b.band (r.accounts.get a)) := by
  rw [← State.postFaults_settle]
  simp only [State.accountPost, h]
  rfl

theorem Stores.accountPost (s : State) : Stores s s.accountPost := by
  cases h : s.settle with
  | post b r a =>
    rw [State.accountPost_eq h]
    refine (StoreOp.post s b r a h).chain.trans (.postFaults (.inr ⟨b, ?_, rfl⟩) r a _)
    simp only [State.bank]
    split <;> next h' => split at h' <;> cases h' <;> rfl
  | _ => simp only [State.accountPost, h]; exact .refl

theorem Stores.computeRead (s : State) : Stores s s.computeRead := by
  cases h : s.settle with
  | compute b rs => exact (StoreOp.computeRead s b rs h).chain
  | _ => simp only [State.computeRead, h]; exact .refl

theorem Stores.closeoutVisit {s : State} (hleft : s.visitsLeft = true) : Stores s s.closeoutVisit := by
  cases h : s.settle with
  | closeout b r next done =>
    have hn : next < 48 := by simpa [State.visitsLeft, h] using hleft
    have hval : Fin.ofNat 48 next = (⟨next, hn⟩ : AccountNo) := Fin.ext (Nat.mod_eq_of_lt hn)
    simp only [State.closeoutVisit, h, hval]
    exact (StoreOp.visit s b r ⟨next, hn⟩ done h).chain
  | _ => simp only [State.closeoutVisit, h]; exact .refl

theorem Stores.periodStep (s : State) : Stores s s.periodStep := by
  cases h : s.settle with
  | closeout b r next done => exact (StoreOp.periodStep s b r next done h).chain
  | _ => simp only [State.periodStep, h]; exact .refl

theorem Stores.summaryWrite (s : State) : Stores s s.summaryWrite := by
  cases h : s.settle with
  | closeout b r next done => exact (StoreOp.summary s b r next done h).chain
  | _ => simp only [State.summaryWrite, h]; exact .refl

/-! ## Clock events -/

theorem Stores.finishDeferred (s : State) : Stores s s.finishDeferred := by
  unfold State.finishDeferred
  split
  · next h =>
    simp only [State.deferredDue, Bool.and_eq_true, decide_eq_true_eq, Bool.not_eq_true'] at h
    obtain ⟨⟨⟨hstore, -⟩, hidle⟩, -⟩ := h
    exact (StoreOp.boundary s s.clock.elapsed hstore (State.settleInFlight_eq_false.1 hidle)).chain
  · exact .refl

theorem Stores.endTickLoss (s : State) : Stores s s.endTickLoss := by
  unfold State.endTickLoss
  split
  · have cleared : Stores s (s.setClock { s.clock with tickLoss := false }) := .setClock rfl rfl id
    exact cleared.tail (.endCondition _ _ _)
  · exact .refl

theorem Stores.countLines (s : State) : Stores s s.countLines := by
  refine (StoreOp.lines s _ fun l h => ?_).chain
  rw [Table.get_ofFn, RuntimeLine.counted]
  split
  · exact addSat_le _ _ _
  · exact h

theorem Clock.counted_eq (c : Clock) : c.counted = { c with
    elapsed := if c.deferred = false ∧ c.elapsed < c.limit then c.elapsed + 1 else c.elapsed } := by
  unfold Clock.counted; split <;> rfl

/-- A counted clock stands in range where its timer has not expired, and where the expiry is deferred. -/
theorem Clock.counted_inRange {c : Clock} (h : c.inRange) (he : c.counted.expired = false) : c.counted.inRange := by
  unfold Clock.counted at he ⊢
  split at he
  · next hc =>
    rw [if_pos hc]
    obtain ⟨h1, h2, h3, -, -, h6⟩ := h
    simp only [Clock.expired, hc.1, Bool.not_false, Bool.true_and, decide_eq_false_iff_not, Nat.not_le] at he
    exact ⟨h1, h2, h3, Nat.le_of_lt he, fun _ => he, h6⟩
  · next hc => rwa [if_neg hc]

theorem Clock.deferred_inRange {c : Clock} (h : c.inRange) : Clock.inRange { c.counted with deferred := true } := by
  obtain ⟨h1, h2, h3, h4, -, h6⟩ := h
  unfold Clock.counted
  split
  · next hc => exact ⟨h1, h2, h3, hc.2, fun h => (nomatch h), h6⟩
  · exact ⟨h1, h2, h3, h4, fun h => (nomatch h), h6⟩

theorem Clock.counted_store (c : Clock) : c.counted.store = c.store := by rw [Clock.counted_eq]

theorem Clock.counted_interval (c : Clock) : c.counted.interval = c.interval := by rw [Clock.counted_eq]

/-- A counted TICK with the boundary it brings about (R143). -/
theorem Stores.countTick_expireIfDue {s : State} (hstore : s.clock.store ≠ .blank) :
    Stores s s.countTick.expireIfDue := by
  have hcounted : s.countTick = s.countLines.setClock { s.countLines.clock with elapsed := s.clock.counted.elapsed } := by
    simp only [State.countTick, Clock.counted_eq]
    rfl
  have hclock : s.countTick.clock = s.clock.counted := rfl
  refine (Stores.countLines s).trans ?_
  unfold State.expireIfDue
  rw [hclock]
  split
  · unfold State.expireTimer
    rw [hclock, Clock.counted_store]
    split
    · next h => exact absurd h hstore
    · next h =>
      rw [hcounted]
      exact (StoreOp.alignment s.countLines _ h).chain
    · next h =>
      split
      · exact Stores.setClock (s := s.countLines) s.clock.counted_store s.clock.counted_interval Clock.deferred_inRange
      · next hidle =>
        rw [hcounted]
        exact (StoreOp.boundary s.countLines _ h (State.settleInFlight_eq_false.1 (by exact Bool.eq_false_iff.2 hidle))).chain
  · next he =>
    exact Stores.setClock (s := s.countLines) s.clock.counted_store s.clock.counted_interval
      fun h => Clock.counted_inRange h (by simpa using he)

theorem Stores.tick (s : State) (levels : Half) : Stores s (s.tick levels) := by
  have taken : Stores s (s.endTickLoss.takeLevels levels) :=
    (Stores.endTickLoss s).tail (.frontEnd _ _ _ _ _)
  unfold State.tick
  simp only
  split
  · next h =>
    simp only [State.ticksCount, Bool.and_eq_true, decide_eq_true_eq] at h
    exact taken.trans (.countTick_expireIfDue h.2)
  · exact taken

theorem Stores.beginTickLoss (s : State) : Stores s s.beginTickLoss := by
  have begun : Stores s (s.setClock { s.clock with
      tickLoss := true, flags := { s.clock.flags with tickLoss := true } }) := .setClock rfl rfl id
  exact begun.tail (.raise _ _ _ _ (.inl rfl))

/-! ## Commands that write the ports alone -/

/-- The ports apart, `t` is `s`. -/
def State.SameStore (s t : State) : Prop := t = { s with ports := t.ports }

theorem State.SameStore.refl (s : State) : s.SameStore s := rfl

theorem State.SameStore.setPort {s t : State} (h : s.SameStore t) (p : Port) (q : PortState) :
    s.SameStore (t.setPort p q) := by
  unfold State.SameStore at *
  rw [h]
  rfl

theorem State.SameStore.offer {s t : State} (h : s.SameStore t) (p : Port) (frame : List Byte) :
    s.SameStore (t.offer p frame) := by
  unfold State.offer
  split <;> exact h.setPort _ _

theorem State.judge_sameStore (s : State) (p : Port) (bytes : List Byte) : s.SameStore (s.judge p bytes) := by
  unfold State.judge
  split
  · exact .refl s
  · split
    · exact (State.SameStore.refl s).setPort _ _
    · split
      · exact (State.SameStore.refl s).setPort _ _
      · simp only
        split
        · exact ((State.SameStore.refl s).setPort _ _).offer _ _
        · exact ((State.SameStore.refl s).setPort _ _).setPort _ _

theorem State.judgeOpen_sameStore (s : State) (p : Port) (bytes : List Byte) : s.SameStore (s.judgeOpen p bytes) := by
  unfold State.judgeOpen
  split
  · exact s.judge_sameStore p bytes
  · exact s.judge_sameStore p bytes
  · exact (State.SameStore.refl s).setPort _ _
  · exact .refl s
  · exact .refl s

theorem State.clockStatus_sameStore (s : State) (p : Port) (n : Nat) : s.SameStore (s.clockStatus p n) := by
  unfold State.clockStatus
  split
  · exact (State.SameStore.refl s).setPort _ _
  · exact (State.SameStore.refl s).setPort _ _
  all_goals exact .refl s

theorem State.clockFetch_sameStore (s : State) (p : Port) (n : Nat) : s.SameStore (s.clockFetch p n) := by
  unfold State.clockFetch
  split
  · exact (State.SameStore.refl s).setPort _ _
  · exact (State.SameStore.refl s).setPort _ _
  all_goals exact .refl s

theorem State.prepareRecord_sameStore (s : State) (p : Port) : s.SameStore (s.prepareRecord p) := by
  unfold State.prepareRecord
  split
  · exact .refl s
  · exact (State.SameStore.refl s).setPort _ _

/-! ## The induction over a step -/

/-- A property of the store: kept by each of its operations, blind to the ports, the receiver, the capture queue, the
arbiter, the supervisor and the line levels, and kept when a suspended settle resumes and by a power-on reset. -/
structure Kept (P : State → Prop) : Prop where
  store : ∀ s t, StoreOp s t → P s → P t
  outside : ∀ (s : State) ports receiver capture overruns arbiter supervisor pins, P s → P { s with
    ports := ports, receiver := receiver, capture := capture, overruns := overruns, arbiter := arbiter
    supervisor := supervisor, linePins := pins }
  resume : ∀ s : State, P s → P s.resumeSettle
  powerOn : ∀ s : State, P s → P s.powerOn

namespace Kept

variable {P : State → Prop} {s t : State} {p : Port}

theorem stores (K : Kept P) (h : Stores s t) (hs : P s) : P t := by
  induction h with
  | refl => exact hs
  | tail _ hop ih => exact K.store _ _ hop ih

theorem sameStore (K : Kept P) (h : s.SameStore t) (hs : P s) : P t := by
  rw [h]
  exact K.outside s t.ports s.receiver s.capture s.overruns s.arbiter s.supervisor s.linePins hs

theorem setPort (K : Kept P) (q : PortState) (hs : P s) : P (s.setPort p q) :=
  K.sameStore ((State.SameStore.refl s).setPort p q) hs

theorem setSupervisor (K : Kept P) (v : Supervisor) (hs : P s) : P (s.setSupervisor v) :=
  K.outside s s.ports s.receiver s.capture s.overruns s.arbiter v s.linePins hs

theorem setArbiter (K : Kept P) (x : Arbiter) (hs : P s) : P { s with arbiter := x } :=
  K.outside s s.ports s.receiver s.capture s.overruns x s.supervisor s.linePins hs

theorem setCapture (K : Kept P) (x : List CaptureEntry) (n : Nat) (hs : P s) :
    P { s with capture := x, overruns := n } :=
  K.outside s s.ports s.receiver x n s.arbiter s.supervisor s.linePins hs

theorem receive (K : Kept P) (x : Receiver) (hs : P s) : P (s.receive x) :=
  K.outside s s.ports x s.capture s.overruns s.arbiter s.supervisor s.linePins hs

theorem enqueue (K : Kept P) (e : CaptureEntry) (hs : P s) : P (s.enqueue e) := by
  unfold State.enqueue
  split <;> exact K.setCapture _ _ hs

theorem raiseTimes (K : Kept P) (c : FaultClass) (sub : Subject) (k : Nat) :
    ∀ s : State, P s → P (s.raiseTimes k c sub s.clock.interval) := by
  induction k with
  | zero => exact fun s hs => hs
  | succ k ih => exact fun s hs => ih _ (K.stores (.raise s c sub) hs)

theorem openGrant (K : Kept P) (r : Requester) (hs : P s) : P (s.openGrant r) := by
  have hb : P (s.beginGrant r) := K.setArbiter _ hs
  unfold State.openGrant State.carriedRaises
  split
  · exact K.setCapture _ _ (K.raiseTimes .lineOverrun .line _ _ hb)
  · exact hb
  · split
    · exact K.setPort _ (K.stores (.raise _ _ _) hb)
    · exact hb

theorem endGrant (K : Kept P) (r : Requester) (hs : P s) : P (s.endGrant r) := K.setArbiter _ hs

theorem operation (K : Kept P) {r : Requester} {enabled : Bool} {work : State → State}
    (hwork : P (s.openGrant r) → P (work (s.openGrant r))) (hs : P s) : P (s.operation r enabled work) := by
  unfold State.operation
  split
  · exact K.endGrant r (hwork (K.openGrant r hs))
  · exact hs

theorem arrived (K : Kept P) (frame : List Byte) (hs : P s) : P (s.arrived p frame) := by
  unfold State.arrived
  split
  · exact hs
  · exact K.setPort _ hs
  · exact K.setPort _ hs
  · exact hs

theorem serve (K : Kept P) {frame : List Byte} {work : State → Answer} (hwork : ∀ u, Stores u (work u).state)
    (hs : P s) : P (s.serve p frame work) := by
  have carried : P ((work (s.started p frame)).close p) :=
    K.endGrant _ (K.setPort _ (K.stores (hwork _) (K.openGrant _ (K.arrived frame hs))))
  unfold State.serve
  split
  · exact hs
  · exact K.setPort _ hs
  · split
    · exact K.setPort _ hs
    · split
      · exact carried
      · exact hs
  · split
    · exact K.setPort _ (K.setPort _ hs)
    · split
      · exact carried
      · exact K.arrived frame hs

theorem request (K : Kept P) {c : Instr} (hport : c.port = some p) (hbytes : c.requestBytes ≠ [])
    (h : exec c s = .next t) (hs : P s) : P t := by
  rw [exec_request hport hbytes, Host.Outcome.next.injEq] at h
  exact h ▸ K.serve (requestWork_stores c) hs

theorem addressCharacter (K : Kept P) (data : Byte) (hs : P s) : P (s.addressCharacter data) := by
  unfold State.addressCharacter
  split
  · exact K.receive _ hs
  · exact K.receive _ hs
  · split
    · exact K.receive _ hs
    · exact K.receive _ (K.enqueue _ hs)

theorem framingCharacter (K : Kept P) (hs : P s) : P s.framingCharacter := by
  unfold State.framingCharacter
  split
  · exact K.receive _ hs
  · exact K.receive _ hs
  · exact K.receive _ (K.enqueue _ hs)

theorem dataCharacter (K : Kept P) (data : Byte) (hs : P s) : P (s.dataCharacter data) := by
  unfold State.dataCharacter
  split
  · exact hs
  · exact hs
  · simp only
    split
    · exact K.receive _ hs
    · split
      · exact K.receive _ (K.enqueue _ hs)
      · split
        · exact K.receive _ (K.enqueue _ hs)
        · exact K.receive _ hs

theorem stopInterfaces (K : Kept P) (hs : P s) : P s.stopInterfaces := by
  have interrupted : P (s.setClock s.clock.interrupt) := by
    refine K.stores (.setClock ?_ ?_ ?_) hs <;> unfold Clock.interrupt <;> split
    · rfl
    · rfl
    · rfl
    · rfl
    · exact id
    · exact id
  exact K.outside _ _ _ _ _ _ s.supervisor _ interrupted

theorem restart (K : Kept P) (hs : P s) : P s.restart := by
  have raised : P ((State.raiseTimes { s with
      ports := ⟨s.ports.plant.restart, s.ports.billing.restart⟩, receiver := .idle }
      s.supervisor.holdExits .supplyHold .supply s.clock.interval)) :=
    K.raiseTimes .supplyHold .supply _ _
      (K.outside s _ _ s.capture s.overruns s.arbiter s.supervisor s.linePins hs)
  refine K.setSupervisor _ (K.resume _ ?_)
  unfold State.raiseResumed
  split
  · next b hb =>
    split
    · exact K.store _ _ (.raise _ _ _ _ (.inr ⟨b, hb, rfl⟩)) raised
    · exact raised
  · exact raised

/-- Every command keeps such a property. -/
theorem exec (K : Kept P) {c : Instr} (h : exec c s = .next t) (hs : P s) : P t := by
  cases c
  case transactionStart p =>
    cases h
    split
    · exact hs
    · split <;> exact K.setPort _ hs
  case transactionEnd p bytes =>
    cases h
    split
    · exact hs
    · split
      · exact K.setPort _ (K.sameStore (s.judgeOpen_sameStore p bytes) hs)
      · exact K.setPort _ hs
  case portFrameRaise p => cases h; exact K.operation id hs
  case status p n =>
    cases h
    split
    · exact K.sameStore (s.clockStatus_sameStore p n) hs
    · exact hs
  case fetch p n =>
    cases h
    split
    · exact K.sameStore (s.clockFetch_sameStore p n) hs
    · exact hs
  case streamRecordPrepare p =>
    cases h
    exact K.operation (K.sameStore (State.prepareRecord_sameStore _ p)) hs
  case meterLineCharacter address data stopHigh =>
    cases h
    split
    · exact hs
    · split
      · exact K.framingCharacter hs
      · split
        · exact K.addressCharacter data hs
        · exact K.dataCharacter data hs
  case gapExpiry =>
    cases h
    split
    · exact hs
    · split
      · exact hs
      · exact K.receive _ hs
      · split
        · exact K.receive _ hs
        · exact K.receive _ (K.enqueue _ hs)
  case drainCaptureEntry =>
    cases h
    refine K.operation (fun h => ?_) hs
    unfold State.drainHead
    split
    · exact h
    · exact K.setCapture _ _ (K.stores (.drainEntry _ _) h)
  case applyHeldDeltas slot =>
    cases h
    split
    · exact K.operation (K.stores (.applyHeld _ _)) hs
    · exact hs
  case tickEdge levels =>
    cases h
    split
    · exact K.stores ((Stores.finishDeferred s).trans (.tick _ levels)) hs
    · exact hs
  case timerExpiry =>
    cases h
    split
    · exact K.stores ((Stores.useFree s 1).trans (.tick _ _)) hs
    · exact hs
  case deferredBoundary => cases h; exact K.stores (.finishDeferred s) hs
  case tickLossTimeout =>
    cases h
    split
    · simp only
      split
      · exact K.stores (.finishDeferred s) hs
      · exact K.stores ((Stores.finishDeferred s).trans (.beginTickLoss _)) hs
    · exact hs
  case computeRead => cases h; exact K.operation (K.stores (.computeRead _)) hs
  case accountPost => cases h; exact K.operation (K.stores (.accountPost _)) hs
  case closeoutVisit =>
    cases h
    unfold State.operation
    split
    · next henabled =>
      simp only [Bool.and_eq_true] at henabled
      exact K.endGrant _ (K.stores (.closeoutVisit (s := s.openGrant .settle) henabled.1) (K.openGrant _ hs))
    · exact hs
  case periodStep => cases h; exact K.operation (K.stores (.periodStep _)) hs
  case summaryWrite => cases h; exact K.operation (K.stores (.summaryWrite _)) hs
  case vmainFall =>
    cases h
    unfold State.mainFall
    split
    · refine K.setSupervisor _ ?_
      split
      · exact K.stopInterfaces hs
      · exact hs
    · exact K.setSupervisor _ hs
    · exact K.setSupervisor _ hs
  case vmainRise => cases h; exact K.setSupervisor _ hs
  case holdExit =>
    cases h
    split
    · unfold State.restartIfReleased
      split
      · exact K.restart (K.setSupervisor _ hs)
      · exact K.setSupervisor _ hs
    · exact hs
  case powerOnReset =>
    cases h
    split
    · exact K.powerOn s hs
    · exact hs
  case backupLowChange low =>
    cases h
    split <;> exact K.setSupervisor _ hs
  case warmResetAssert =>
    cases h
    split
    · refine K.setSupervisor _ ?_
      split
      · exact K.stopInterfaces hs
      · exact hs
    · exact hs
  case warmResetRelease =>
    cases h
    split
    · exact hs
    · simp only
      split
      · exact K.restart (K.setSupervisor _ hs)
      · exact K.setSupervisor _ hs
  case vmainFallBelowRunThreshold => cases h; exact K.setSupervisor _ hs
  all_goals exact K.request rfl (by simp [Instr.requestBytes]) h hs

/-- Every step keeps such a property, where the queue of commands takes no part in it. -/
theorem step (K : Kept P) (hpending : ∀ (s : State) rest, P s → P { s with pending := rest })
    (h : step s = .next t) (hs : P s) : P t := by
  unfold Machine.step at h
  split at h
  · cases h
    exact hs
  · exact K.exec h (hpending s _ hs)

end Kept

end Sys2Proof.Machine
end

section
/-!
PROOF. The Fault Table under a raise, an end of a condition and an acknowledgement: each keeps its entries unique, proper and
in range (R155, R158, R164); and what the boundary operations and the assignment's writes leave of each record.
-/

namespace Sys2Proof.Machine

/-! ## The Fault Table's operations keep its laws -/

theorem Faults.find_spec {f : Faults} {c : FaultClass} {sub : Subject} {i : Position} (h : f.find c sub = some i) :
    ∃ e, f.entries.get i = some e ∧ e.cls = c ∧ e.subject = sub := by
  simpa [FaultEntry.isFor, Option.any_eq_true] using List.find?_some h

theorem Faults.not_mem_of_find_none {f : Faults} {c : FaultClass} {sub : Subject} (h : f.find c sub = none)
    {i : Position} {e : FaultEntry} (he : f.entries.get i = some e) : ¬ (e.cls = c ∧ e.subject = sub) := by
  intro hfor
  have hnone := List.find?_eq_none.1 h i (List.mem_finRange i)
  simp [he, FaultEntry.isFor, hfor] at hnone

theorem Faults.get_of_freePosition {f : Faults} {i : Position} (h : f.freePosition = some i) :
    f.entries.get i = none := by
  simpa using List.find?_some h

/-- The laws of R158, R155 and R164 together. -/
def Faults.lawful (f : Faults) : Prop := f.unique ∧ f.proper

/-- An entry that R155 and R164 allow. -/
def FaultEntry.proper (e : FaultEntry) : Prop :=
  (e.active = true → e.cls.isCondition = true) ∧
  (e.notice.plant = true ∨ e.notice.billing = true ∨ e.active = true)

/-- A table whose every entry stands where an entry of the same class and subject stood stays unique; its entries are
proper where the old ones make them so. -/
theorem Faults.lawful_of_entries {f g : Faults} (hf : f.lawful)
    (h : ∀ i y, g.entries.get i = some y → ∃ x, f.entries.get i = some x ∧ y.cls = x.cls ∧ y.subject = x.subject ∧
      (x.proper → y.proper)) : g.lawful := by
  refine ⟨fun i j x y hi hj hc hs => ?_, fun i y hi => ?_⟩
  · obtain ⟨x', hx', hxc, hxs, -⟩ := h i x hi
    obtain ⟨y', hy', hyc, hys, -⟩ := h j y hj
    exact hf.1 i j x' y' hx' hy' (by rw [← hxc, hc, hyc]) (by rw [← hxs, hs, hys])
  · obtain ⟨x, hx, -, -, hp⟩ := h i y hi
    exact hp (hf.2 i x hx)

@[simp] theorem FaultEntry.recur_cls (e : FaultEntry) (w : PerPort Bool) (n : Nat) : (e.recur w n).cls = e.cls := by
  unfold FaultEntry.recur; simp only; split <;> rfl

@[simp] theorem FaultEntry.recur_subject (e : FaultEntry) (w : PerPort Bool) (n : Nat) :
    (e.recur w n).subject = e.subject := by
  unfold FaultEntry.recur; simp only; split <;> rfl

theorem FaultEntry.recur_proper {e : FaultEntry} (h : e.proper) (w : PerPort Bool) (n : Nat) :
    (e.recur w n).proper := by
  obtain ⟨hactive, hkept⟩ := h
  unfold FaultEntry.recur
  simp only
  split
  · exact ⟨hactive, hkept⟩
  · refine ⟨id, ?_⟩
    simp only [PerPort.ofFn, PerPort.get, Bool.or_eq_true]
    rcases hkept with hp | hb | ha
    · exact .inl (.inl hp)
    · exact .inr (.inl (.inl hb))
    · exact .inr (.inr (hactive ha))

theorem FaultEntry.kept_eq_some {e x : FaultEntry} : e.kept = some x ↔
    e = x ∧ (e.notice.plant = true ∨ e.notice.billing = true ∨ e.active = true) := by
  unfold FaultEntry.kept
  split <;> simp_all [or_assoc]

theorem Faults.raise_recur {f : Faults} {c : FaultClass} {sub : Subject} {i : Position} (h : f.find c sub = some i)
    (n : Nat) :
    f.raise c sub n = { f with entries := f.entries.modify i (Option.map fun e => e.recur (f.wants c) n) } := by
  simp only [Faults.raise, h]

theorem Faults.raise_lawful {f : Faults} (hf : f.lawful) (c : FaultClass) (sub : Subject) (n : Nat) :
    (f.raise c sub n).lawful := by
  cases h : f.find c sub with
  | some i =>
    rw [Faults.raise_recur h]
    refine Faults.lawful_of_entries hf fun j y hj => ?_
    simp only [Table.get_modify] at hj
    split at hj
    · obtain ⟨x, hx, rfl⟩ := Option.map_eq_some_iff.1 hj
      exact ⟨x, hx, by simp, by simp, fun hp => FaultEntry.recur_proper hp _ _⟩
    · exact ⟨y, hj, rfl, rfl, id⟩
  | none =>
    unfold Faults.raise
    rw [h]
    simp only
    split
    · exact hf
    · next hmask =>
      split
      · next i hi =>
        have new (j : Position) (y : FaultEntry) (hj : (f.insert i c sub n).entries.get j = some y) :
            (j = i ∧ y.cls = c ∧ y.subject = sub ∧ y.proper) ∨ (j ≠ i ∧ f.entries.get j = some y) := by
          simp only [Faults.insert, Table.get_set] at hj
          split at hj
          · next hij =>
            cases hj
            refine .inl ⟨hij.symm, rfl, rfl, id, ?_⟩
            simp only [Faults.wants, PerPort.ofFn, Bool.not_eq_true']
            simp only [Bool.and_eq_true, Classical.not_and_iff_not_or_not, Bool.not_eq_true] at hmask
            exact hmask.imp id .inl
          · next hij => exact .inr ⟨fun h => hij h.symm, hj⟩
        refine ⟨fun j k x y hx hy hc hs => ?_, fun j y hy => ?_⟩
        · rcases new j x hx with ⟨rfl, hxc, hxs, -⟩ | ⟨hj, hx'⟩
          · rcases new k y hy with ⟨rfl, -⟩ | ⟨-, hy'⟩
            · rfl
            · exact absurd ⟨hc ▸ hxc, hs ▸ hxs⟩ (Faults.not_mem_of_find_none h hy')
          · rcases new k y hy with ⟨rfl, hyc, hys, -⟩ | ⟨-, hy'⟩
            · exact absurd ⟨hc.trans hyc, hs.trans hys⟩ (Faults.not_mem_of_find_none h hx')
            · exact hf.1 j k x y hx' hy' hc hs
        · rcases new j y hy with ⟨-, -, -, hp⟩ | ⟨-, hy'⟩
          · exact hp
          · exact hf.2 j y hy'
      · exact hf

theorem Faults.endCondition_lawful {f : Faults} (hf : f.lawful) (c : FaultClass) (sub : Subject) :
    (f.endCondition c sub).lawful := by
  unfold Faults.endCondition
  split
  · refine Faults.lawful_of_entries hf fun j y hj => ?_
    simp only [Table.get_modify] at hj
    split at hj
    · obtain ⟨x, hx, hy⟩ := Option.bind_eq_some_iff.1 hj
      split at hy
      · obtain ⟨rfl, hkept⟩ := FaultEntry.kept_eq_some.1 hy
        exact ⟨x, hx, rfl, rfl, fun _ => ⟨fun h => (nomatch h), hkept⟩⟩
      · cases hy
        exact ⟨_, hx, rfl, rfl, id⟩
    · exact ⟨y, hj, rfl, rfl, id⟩
  · exact hf

theorem Faults.ack_lawful {f : Faults} (hf : f.lawful) (p : Port) (selection : Word) (clear : Bool) :
    (f.ack p selection clear).lawful := by
  refine Faults.lawful_of_entries hf fun j y hj => ?_
  rw [Faults.ack_entries_get] at hj
  split at hj
  · obtain ⟨x, hx, hy⟩ := Option.bind_eq_some_iff.1 hj
    obtain ⟨rfl, hkept⟩ := FaultEntry.kept_eq_some.1 hy
    exact ⟨x, hx, rfl, rfl, fun hp => ⟨hp.1, hkept⟩⟩
  · exact ⟨y, hj, rfl, rfl, id⟩

/-- An entry's ranges (R155). -/
def FaultEntry.inRange (e : FaultEntry) : Prop :=
  e.seq < 65536 ∧ 1 ≤ e.occurrences ∧ e.occurrences ≤ 255 ∧ e.first ≤ 4294967295 ∧ e.last ≤ 4294967295

theorem Faults.freshSeq_lt (f : Faults) : ∀ fuel n, n < 65536 → f.freshSeq fuel n < 65536 := by
  intro fuel
  induction fuel with
  | zero => exact fun n hn => hn
  | succ k ih =>
    intro n hn
    unfold Faults.freshSeq
    split
    · exact ih _ (Nat.mod_lt _ (by decide))
    · exact hn

theorem FaultEntry.recur_inRange {e : FaultEntry} (h : e.inRange) (w : PerPort Bool) {n : Nat} (hn : n ≤ 4294967295) :
    (e.recur w n).inRange := by
  obtain ⟨hseq, hocc, -, hfirst, -⟩ := h
  have hadd : 1 ≤ addSat 255 e.occurrences 1 ∧ addSat 255 e.occurrences 1 ≤ 255 := by rw [addSat_eq]; omega
  unfold FaultEntry.recur
  simp only
  split <;> exact ⟨hseq, hadd.1, hadd.2, hfirst, hn⟩

theorem Faults.inRange_of_entries {f g : Faults} (hf : f.inRange) (hcounter : g.counter = f.counter)
    (hmask : g.mask = f.mask)
    (h : ∀ i y, g.entries.get i = some y → ∃ x, f.entries.get i = some x ∧ (x.inRange → y.inRange)) : g.inRange := by
  obtain ⟨hc, hm, he⟩ := hf
  refine ⟨hcounter ▸ hc, hmask ▸ hm, fun i y hy => ?_⟩
  obtain ⟨x, hx, hp⟩ := h i y hy
  exact hp (he i x hx)

theorem Faults.raise_inRange {f : Faults} (hf : f.inRange) (c : FaultClass) (sub : Subject) {n : Nat}
    (hn : n ≤ 4294967295) : (f.raise c sub n).inRange := by
  cases h : f.find c sub with
  | some i =>
    rw [Faults.raise_recur h]
    refine Faults.inRange_of_entries hf rfl rfl fun j y hj => ?_
    simp only [Table.get_modify] at hj
    split at hj
    · obtain ⟨x, hx, rfl⟩ := Option.map_eq_some_iff.1 hj
      exact ⟨x, hx, fun hr => FaultEntry.recur_inRange hr _ hn⟩
    · exact ⟨y, hj, id⟩
  | none =>
    unfold Faults.raise
    rw [h]
    simp only
    split
    · exact hf
    · split
      · obtain ⟨hc, hm, he⟩ := hf
        refine ⟨Nat.mod_lt _ (by decide), hm, fun j y hj => ?_⟩
        simp only [Faults.insert, Table.get_set] at hj
        split at hj
        · cases hj
          exact ⟨Faults.freshSeq_lt f _ _ hc, Nat.le_refl 1, (by decide : 1 ≤ 255), hn, hn⟩
        · exact he j y hj
      · exact hf

theorem Faults.endCondition_inRange {f : Faults} (hf : f.inRange) (c : FaultClass) (sub : Subject) :
    (f.endCondition c sub).inRange := by
  unfold Faults.endCondition
  split
  · refine Faults.inRange_of_entries hf rfl rfl fun j y hj => ?_
    simp only [Table.get_modify] at hj
    split at hj
    · obtain ⟨x, hx, hy⟩ := Option.bind_eq_some_iff.1 hj
      split at hy
      · obtain ⟨rfl, -⟩ := FaultEntry.kept_eq_some.1 hy
        exact ⟨x, hx, id⟩
      · cases hy
        exact ⟨_, hx, id⟩
    · exact ⟨y, hj, id⟩
  · exact hf

theorem Faults.ack_inRange {f : Faults} (hf : f.inRange) (p : Port) (selection : Word) (clear : Bool) :
    (f.ack p selection clear).inRange := by
  refine Faults.inRange_of_entries hf rfl rfl fun j y hj => ?_
  rw [Faults.ack_entries_get] at hj
  split at hj
  · obtain ⟨x, hx, hy⟩ := Option.bind_eq_some_iff.1 hj
    obtain ⟨rfl, -⟩ := FaultEntry.kept_eq_some.1 hy
    exact ⟨x, hx, id⟩
  · exact ⟨y, hj, id⟩

theorem Faults.setMask_inRange {f : Faults} (hf : f.inRange) (p : Port) (m : Word) :
    Faults.inRange { f with mask := f.mask.set p (maskOf m) } := by
  obtain ⟨hc, hm, he⟩ := hf
  refine ⟨hc, fun q => ?_, he⟩
  simp only [PerPort.get_set]
  split
  · rw [maskOf, BitVec.and_assoc, BitVec.and_self]
  · exact hm q

/-- Raises over a list of slots keep what one raise keeps. -/
theorem Faults.foldl_raise {Q : Faults → Prop} (c : FaultClass) (n : Nat) (h : ∀ f sub, Q f → Q (f.raise c sub n)) :
    ∀ (l : List SlotNo) (f : Faults), Q f → Q (l.foldl (fun f m => f.raise c (.meter m) n) f) := by
  intro l
  induction l with
  | nil => exact fun f hf => hf
  | cons m l ih => exact fun f hf => ih _ (h f _ hf)

/-! ## What the boundary operations leave -/

theorem State.metersAtBoundary_eq (s : State) : s.metersAtBoundary = { s with
    meters := s.meters.map MeterSlot.atBoundary
    faults := s.newlyLate.foldl (fun f m => f.raise .meterLate (.meter m) s.clock.interval) s.faults } := by
  obtain ⟨h, hm⟩ := State.foldl_meterBoundary (List.finRange 64) (List.nodup_finRange 64) s
  have hmeters : s.metersAtBoundary.meters = s.meters.map MeterSlot.atBoundary := by
    refine Table.ext_get fun m => ?_
    rw [Table.get_map]
    exact (hm m).trans (if_pos (List.mem_finRange m))
  rw [← hmeters]
  exact h

/-- A boundary in RUNNING, field by field. -/
theorem State.boundary_eq (s : State) : s.boundary = { s with
    meters := (s.meters.map MeterSlot.atBoundary).map MeterSlot.emptied
    plant := s.plant.map PlantSlot.emptied
    lines := s.lines.map RuntimeLine.emptied
    accounts := s.accounts.map fun r => r.atBoundary (nextInterval s.clock.interval)
    joinedNote := s.accounts.map fun r => decide (r.tenancy = .joined)
    clock := s.clock.begin (nextInterval s.clock.interval) s.settingsStaged
    faults := s.newlyLate.foldl (fun f m => f.raise .meterLate (.meter m) s.clock.interval) s.faults
    settle := .compute s.metersAtBoundary.fillBank [], stagedClose := false } := by
  have h : s.boundary = { s.metersAtBoundary.beginInterval (nextInterval s.clock.interval) with
    settle := .compute s.metersAtBoundary.fillBank [], stagedClose := false } := rfl
  rw [h, State.metersAtBoundary_eq]
  rfl

/-- The alignment boundary, field by field. -/
theorem State.alignmentBoundary_eq (s : State) : s.alignmentBoundary = { s with
    meters := (s.meters.map fun k => { k with frameSeen := false }).map MeterSlot.emptied
    plant := s.plant.map PlantSlot.emptied
    lines := s.lines.map RuntimeLine.emptied
    accounts := (s.accounts.map fun r => r.atBoundary 1).set 0 { (s.account 0).atBoundary 1 with firstInterval := 1 }
    joinedNote := s.accounts.map fun r => decide (r.tenancy = .joined)
    clock := s.clock.begin 1 s.settingsStaged } := by
  have h : (s.accounts.map fun r => r.atBoundary 1).get 0 = (s.account 0).atBoundary 1 := Table.get_map _ _ _
  rw [← h]
  rfl

theorem State.boundary_account (s : State) (a : AccountNo) :
    s.boundary.account a = (s.account a).atBoundary (nextInterval s.clock.interval) := by
  rw [State.boundary_eq]
  exact Table.get_map _ _ _

theorem State.boundary_meter (s : State) (m : SlotNo) : s.boundary.meter m = (s.meter m).atBoundary.emptied := by
  rw [State.boundary_eq]
  simp [State.meter]

theorem State.alignmentBoundary_account (s : State) (a : AccountNo) :
    s.alignmentBoundary.account a =
      if a = 0 then { (s.account a).atBoundary 1 with firstInterval := 1 } else (s.account a).atBoundary 1 := by
  rw [State.alignmentBoundary_eq]
  simp only [State.account, Table.get_set]
  split
  · next h => subst h; rw [if_pos rfl]
  · next h => rw [if_neg (fun h' => h h'.symm), Table.get_map]

theorem State.alignmentBoundary_meter (s : State) (m : SlotNo) :
    s.alignmentBoundary.meter m = MeterSlot.emptied { s.meter m with frameSeen := false } := by
  rw [State.alignmentBoundary_eq]
  simp [State.meter]

section AtBoundary

variable (r : Account) (n : Nat)

@[simp] theorem Account.atBoundary_inForce : (r.atBoundary n).inForce = r.stagedSettings.getD r.inForce := by
  unfold Account.atBoundary Account.completeMove; split <;> rfl
@[simp] theorem Account.atBoundary_stagedSettings : (r.atBoundary n).stagedSettings = none := by
  unfold Account.atBoundary Account.completeMove; split <;> rfl
@[simp] theorem Account.atBoundary_meterPos : (r.atBoundary n).meterPos = r.meterPos := by
  unfold Account.atBoundary Account.completeMove; split <;> rfl
@[simp] theorem Account.atBoundary_work : (r.atBoundary n).work = r.work := by
  unfold Account.atBoundary Account.completeMove; split <;> rfl
@[simp] theorem Account.atBoundary_totals : (r.atBoundary n).totals = r.totals := by
  unfold Account.atBoundary Account.completeMove; split <;> rfl
@[simp] theorem Account.atBoundary_settledThrough : (r.atBoundary n).settledThrough = r.settledThrough := by
  unfold Account.atBoundary Account.completeMove; split <;> rfl

end AtBoundary

/-- What becomes of a slot's state, configuration and assignment at a boundary. -/
theorem MeterSlot.atBoundary_off {k : MeterSlot} (h : k.state = .off) : k.atBoundary.state = .off := by
  rw [MeterSlot.atBoundary, if_pos h]
  exact h

theorem MeterSlot.atBoundary_measured (k : MeterSlot) : k.Measured k.atBoundary := by
  have hmissed {x : Nat} : (if k.frameSeen then 0 else addSat 255 x 1) ≤ 255 := by
    split
    · exact Nat.zero_le _
    · exact addSat_le _ _ _
  refine ⟨?_, ?_, ?_, MeterSlot.atBoundary_off, ?_⟩
  · unfold MeterSlot.atBoundary; split <;> rfl
  · unfold MeterSlot.atBoundary; split <;> rfl
  · unfold MeterSlot.atBoundary; split <;> rfl
  · intro h
    unfold MeterSlot.atBoundary
    split
    · exact h
    · obtain ⟨h1, h2, h3, h4, h5, -, h7⟩ := h
      exact ⟨h1, h2, h3, h4, h5, hmissed, h7⟩

theorem MeterSlot.emptied_measured (k : MeterSlot) : k.Measured k.emptied := by
  refine ⟨rfl, rfl, rfl, id, fun ⟨h1, h2, h3, h4, h5, h6, h7, _, h9⟩ => ⟨h1, h2, h3, h4, h5, h6, h7, fun sv => ?_, h9⟩⟩
  cases sv <;> exact Nat.zero_le _

theorem MeterSlot.unseen_measured (k : MeterSlot) : k.Measured { k with frameSeen := false } :=
  ⟨rfl, rfl, rfl, id, id⟩

theorem MeterSlot.Measured.trans {k l m : MeterSlot} (h : k.Measured l) (h' : l.Measured m) : k.Measured m :=
  ⟨h'.address.trans h.address, h'.service.trans h.service, h'.target.trans h.target, h'.off ∘ h.off,
    h'.inRange ∘ h.inRange⟩

/-! ## What an assignment's writes leave -/

theorem State.dropAssignment_fields (s : State) (m : SlotNo) :
    ∃ accounts pools, s.dropAssignment m = { s with accounts := accounts, pools := pools } ∧
      ∀ a, ∃ pos, accounts.get a = { s.account a with meterPos := pos } := by
  unfold State.dropAssignment
  split
  · exact ⟨s.accounts, s.pools, rfl, fun a => ⟨_, rfl⟩⟩
  · next a _ =>
    refine ⟨_, _, rfl, fun b => ?_⟩
    rw [Table.get_set]
    split
    · next h => subst h; exact ⟨_, rfl⟩
    · exact ⟨_, rfl⟩
  · exact ⟨_, _, rfl, fun a => ⟨_, rfl⟩⟩

theorem State.placeMeter_fields (s : State) (m : SlotNo) (v : MeterService) (g : Target) :
    ∃ accounts pools, s.placeMeter m v g = { s with accounts := accounts, pools := pools } ∧
      ∀ a, ∃ pos, accounts.get a = { s.account a with meterPos := pos } := by
  unfold State.placeMeter
  split
  · next a =>
    refine ⟨_, _, rfl, fun b => ?_⟩
    rw [Table.get_set]
    split
    · next h => subst h; exact ⟨_, rfl⟩
    · exact ⟨_, rfl⟩
  · exact ⟨_, _, rfl, fun a => ⟨_, rfl⟩⟩
  · exact ⟨s.accounts, s.pools, rfl, fun a => ⟨_, rfl⟩⟩

/-- The release of a statement's account writes tenancy, tag, working state and first interval of accounts, and nothing
else. -/
theorem State.releaseStatement_fields (s : State) (x : Statement) :
    ∃ accounts, s.releaseStatement x = { s with accounts := accounts } := by
  unfold State.releaseStatement
  split
  · unfold State.vacate
    simp only
    split
    · split
      · exact ⟨_, rfl⟩
      · exact ⟨_, rfl⟩
    · exact ⟨_, rfl⟩
  · exact ⟨s.accounts, rfl⟩

theorem State.account_releaseStatement (s : State) (x : Statement) (b : AccountNo) :
    ∃ tenancy tag work first, (s.releaseStatement x).account b =
      { s.account b with tenancy := tenancy, tag := tag, work := work, firstInterval := first } := by
  have vacated (u : AccountNo) : ∃ tenancy tag work first,
      (s.setAccount x.account (s.account x.account).vacated).account u =
        { s.account u with tenancy := tenancy, tag := tag, work := work, firstInterval := first } := by
    rw [State.account_setAccount]
    split
    · next h => subst h; exact ⟨_, _, _, _, rfl⟩
    · exact ⟨_, _, _, _, rfl⟩
  unfold State.releaseStatement State.vacate
  split
  · simp only
    split
    · next u _ =>
      split
      · rw [State.account_setAccount]
        split
        · next h =>
          subst h
          obtain ⟨_, _, _, _, hu⟩ := vacated u
          have reset := congrArg Account.resetWork hu
          exact ⟨_, _, _, _, reset⟩
        · exact vacated b
      · exact vacated b
    · exact vacated b
  · exact ⟨_, _, _, _, rfl⟩

theorem State.account_visitAccount (s : State) (b : Bank) (a c : AccountNo) :
    ∃ totals first, (s.visitAccount b a).account c = { s.account c with totals := totals, firstInterval := first } := by
  unfold State.visitAccount
  simp only
  split
  · exact ⟨_, _, rfl⟩
  · next kind _ =>
    change ∃ totals first, (s.setAccount a _).account c = _
    rw [State.account_setAccount]
    split
    · next h => subst h; cases kind <;> exact ⟨_, _, rfl⟩
    · exact ⟨_, _, rfl⟩

@[simp] theorem State.initialise_account (s : State) (a : AccountNo) :
    s.initialise.account a = (s.account a).initialised a := Table.get_ofFn _ _

/-! ## The Fault uniqueness law (R158) -/

theorem Faults.lawful_initial : Faults.initial.lawful := by
  have hget (i : Position) (x : FaultEntry) (h : Faults.initial.entries.get i = some x) :
      i = 0 ∧ x = { seq := 0, cls := .storeLost, subject := .store, first := 0, last := 0, occurrences := 1,
                    active := false, notice := ⟨true, true⟩ } := by
    simp only [Faults.initial, Table.get_set, Table.get_fill] at h
    split at h
    · next hi => exact ⟨hi.symm, (Option.some.inj h).symm⟩
    · cases h
  refine ⟨fun i j x y hx hy _ _ => (hget i x hx).1.trans (hget j y hy).1.symm, fun i x hx => ?_⟩
  obtain ⟨-, rfl⟩ := hget i x hx
  exact ⟨fun h => (nomatch h), .inl rfl⟩

theorem Kept.faults : Kept fun s => s.faults.lawful where
  store s t h hs := by
    cases h with
    | raise c sub n _ => exact Faults.raise_lawful hs c sub n
    | endCondition c sub => exact Faults.endCondition_lawful hs c sub
    | ack p selection clear => exact Faults.ack_lawful hs p selection clear
    | detach m k =>
      obtain ⟨_, _, h, -⟩ := s.dropAssignment_fields m
      rw [State.setMeter_faults, h]
      exact hs
    | assign m g =>
      obtain ⟨_, _, h, -⟩ := s.placeMeter_fields m (s.meter m).service g
      rw [State.setMeter_faults, h]
      exact hs
    | boundary elapsed =>
      rw [State.boundary_eq]
      exact Faults.foldl_raise (Q := Faults.lawful) _ _ (fun f sub hf => Faults.raise_lawful hf _ _ _) _ _ hs
    | alignment elapsed => rw [State.alignmentBoundary_eq]; exact hs
    | takeStatement x rest =>
      obtain ⟨_, h⟩ := State.releaseStatement_fields { s with queue := rest } x
      rw [h]
      exact hs
    | computeRead b rs h => rw [State.computeRead, h]; exact hs
    | visit b r a done h =>
      simp only [State.visitAccount]
      split <;> exact hs
    | periodStep b r next done h => rw [State.periodStep, h]; exact hs
    | summary b r next done h => rw [State.summaryWrite, h]; exact hs
    | _ => exact hs
  outside _ _ _ _ _ _ _ _ hs := hs
  resume s hs := by
    unfold State.resumeSettle
    split <;> exact hs
  powerOn _ _ := Faults.lawful_initial

/-- Settles O50: raises, ends and acknowledgements alone write entries, and each keeps them unique and proper. -/
theorem faultUniquenessKept : Obligations.FaultUniquenessKept :=
  fun _ _ hs h => Kept.faults.step (fun _ _ hs => hs) h hs

end Sys2Proof.Machine
end

section
/-!
PROOF. The settle's laws: one settle at a time (R36), and settled-through (R112).
-/

namespace Sys2Proof.Machine

/-! ## The settle's operations -/

/-- The settle's operations on a store with the settle they need: the readings grow, and the last leads to POST. -/
theorem State.computeRead_eq {s : State} {b : Bank} {rs : List (PerService Reading)} (h : s.settle = .compute b rs) :
    s.computeRead = { s with
      settle := if rs.length + 1 < 48 then .compute b (rs ++ [(s.account (Fin.ofNat 48 rs.length)).reading])
        else .post b (b.results (rs ++ [(s.account (Fin.ofNat 48 rs.length)).reading])) 1 } := by
  simp [State.computeRead, h]

theorem State.periodStep_eq {s : State} {b : Bank} {r : Results} {next : Nat} {done : Bool}
    (h : s.settle = .closeout b r next done) :
    s.periodStep = { s with
      period := if b.periodEnd then nextPeriod s.period else s.period, settle := .closeout b r next true } := by
  simp only [State.periodStep, h]

theorem State.summaryWrite_eq {s : State} {b : Bank} {r : Results} {next : Nat} {done : Bool}
    (h : s.settle = .closeout b r next done) :
    s.summaryWrite = { s with
      ring := (b.summary r :: s.ring).take Config.ringMax, settle := .idle
      ports := ⟨s.ports.plant.setSettled, s.ports.billing.setSettled⟩ } := by
  simp only [State.summaryWrite, h]

/-- A visit writes the record of its account and the queue. -/
theorem State.visitAccount_fields (s : State) (b : Bank) (a : AccountNo) :
    ∃ r queue, s.visitAccount b a = { s.setAccount a r with queue := queue } := by
  unfold State.visitAccount
  simp only
  split
  · refine ⟨s.account a, s.queue, ?_⟩
    have h : s.accounts.set a (s.account a) = s.accounts := Table.set_get _ _
    rw [State.setAccount, h]
  · exact ⟨_, _, rfl⟩

/-- The bank a settle state carries. -/
def Settle.bank : Settle → Option Bank
  | .idle => none
  | .compute b _ => some b
  | .post b _ _ => some b
  | .closeout b _ _ _ => some b

theorem State.bank_eq (s : State) : s.bank = s.settle.bank := by
  unfold State.bank Settle.bank
  cases s.settle <;> rfl

theorem State.bank_resumeSettle (s : State) : s.resumeSettle.bank = s.bank := by
  unfold State.resumeSettle
  split <;> next h => simp only [State.bank, h]

theorem State.boundary_settle (s : State) : s.boundary.settle = .compute s.metersAtBoundary.fillBank [] := rfl

theorem State.fillBank_interval (s : State) : s.metersAtBoundary.fillBank.interval = s.clock.interval := by
  rw [State.metersAtBoundary_eq]
  rfl

/-! ## The single-settle law (R36) -/

theorem State.singleSettle_of_idle {s : State} (h : s.settle = .idle) : s.singleSettle := by
  intro b hb
  simp [State.bank, h] at hb

theorem State.singleSettle_congr {s t : State} (hclock : t.clock = s.clock) (hbank : t.bank = s.bank)
    (h : s.singleSettle) : t.singleSettle := by
  unfold State.singleSettle at *
  rwa [hclock, hbank]

theorem Kept.singleSettle : Kept State.singleSettle where
  store s t h hs := by
    cases h with
    | detach m k =>
      obtain ⟨_, _, h, -⟩ := s.dropAssignment_fields m
      rw [h]
      exact hs
    | assign m g =>
      obtain ⟨_, _, h, -⟩ := s.placeMeter_fields m (s.meter m).service g
      rw [h]
      exact hs
    | clock c store interval => exact fun b hb => ⟨store.trans (hs b hb).1, interval.trans (hs b hb).2⟩
    | boundary elapsed =>
      intro b hb
      rw [State.bank, State.boundary_settle] at hb
      obtain rfl := Option.some.inj hb
      rw [State.fillBank_interval, State.boundary_eq]
      exact ⟨rfl, rfl⟩
    | alignment elapsed store =>
      refine State.singleSettle_of_idle ?_
      rw [State.alignmentBoundary_eq]
      cases hidle : s.settle with
      | idle => exact hidle
      | _ =>
        have running := (hs _ (by rw [State.bank, hidle])).1
        rw [store] at running
        cases running
    | initialise idle => exact State.singleSettle_of_idle idle
    | takeStatement x rest =>
      obtain ⟨_, h⟩ := State.releaseStatement_fields { s with queue := rest } x
      rw [h]
      exact hs
    | computeRead b rs h =>
      refine State.singleSettle_congr (s := s) ?_ ?_ hs <;> rw [State.computeRead_eq h]
      simp only [State.bank_eq, h]
      split <;> rfl
    | post b r a h =>
      refine State.singleSettle_congr (s := s) rfl ?_ hs
      simp only [State.bank_eq, h]
      split <;> rfl
    | visit b r a done h =>
      obtain ⟨_, _, hv⟩ := s.visitAccount_fields b a
      refine State.singleSettle_congr (s := s) (by rw [hv]; rfl) ?_ hs
      simp only [State.bank_eq, h]
      rfl
    | periodStep b r next done h =>
      rw [State.periodStep_eq h]
      refine State.singleSettle_congr (s := s) rfl ?_ hs
      simp only [State.bank_eq, h]
      rfl
    | summary b r next done h =>
      rw [State.summaryWrite_eq h]
      exact State.singleSettle_of_idle rfl
    | _ => exact hs
  outside _ _ _ _ _ _ _ _ hs := hs
  resume s hs := by
    refine State.singleSettle_congr (s := s) ?_ s.bank_resumeSettle hs
    unfold State.resumeSettle
    split <;> rfl
  powerOn _ _ := State.singleSettle_of_idle rfl

/-- Settles O51: a settle starts only from IDLE at the boundary that ends its interval, and the interval number moves at a
boundary alone. -/
theorem singleSettleKept : Obligations.SingleSettleKept :=
  fun _ _ hs h => Kept.singleSettle.step (fun _ _ hs => hs) h hs

/-! ## The settled-through law (R112) -/

theorem postRank_lt (a : AccountNo) : postRank a < 48 := Nat.mod_lt _ (by decide)

theorem postRank_zero : postRank 0 = 47 := rfl

theorem postRank_injective {a b : AccountNo} (h : postRank a = postRank b) : a = b := by
  unfold postRank at h
  have ha := a.isLt
  have hb := b.isLt
  exact Fin.ext (by omega)

/-- The account after another in post order is the one whose place follows. -/
theorem postRank_nextPost {a : AccountNo} (h : a ≠ 0) : postRank (nextPost a) = postRank a + 1 := by
  have hval : a.val ≠ 0 := fun h' => h (Fin.ext h')
  simp only [postRank, nextPost, Fin.val_add]
  have hone : (1 : AccountNo).val = 1 := rfl
  omega

/-- The law holds with the same records, settle and ring. -/
theorem State.settledThroughLaw_congr {s t : State} (hacc : ∀ a, (t.account a).settledThrough = (s.account a).settledThrough)
    (hsettle : t.settle = s.settle) (hring : t.ring = s.ring) (h : s.settledThroughLaw) : t.settledThroughLaw := by
  unfold State.settledThroughLaw State.lastSettled at *
  simpa only [hacc, hsettle, hring] using h

theorem State.settledThrough_setAccount {s : State} {a : AccountNo} {r : Account}
    (h : r.settledThrough = (s.account a).settledThrough) (b : AccountNo) :
    ((s.setAccount a r).account b).settledThrough = (s.account b).settledThrough := by
  rw [State.account_setAccount]
  split
  · next hab => rw [h, hab]
  · rfl

theorem State.settledThrough_releaseStatement (s : State) (x : Statement) (b : AccountNo) :
    ((s.releaseStatement x).account b).settledThrough = (s.account b).settledThrough := by
  obtain ⟨_, _, _, _, h⟩ := s.account_releaseStatement x b
  rw [h]

theorem State.visitAccount_settledThrough (s : State) (b : Bank) (a c : AccountNo) :
    ((s.visitAccount b a).account c).settledThrough = (s.account c).settledThrough := by
  obtain ⟨_, _, h⟩ := s.account_visitAccount b a c
  rw [h]

theorem State.firstUnposted_mem {s : State} {n : Nat} {a : AccountNo} (h : s.firstUnposted n = some a) :
    (s.account a).settledThrough ≠ n := by
  simpa using List.find?_some h

theorem accountNo_sub_add (a : AccountNo) : a - 1 + 1 = a := by
  have h : ∀ b : Fin 48, b - 1 + 1 = b := fun b => by omega
  exact h a

theorem State.posted_of_firstUnposted_none {s : State} {n : Nat} (h : s.firstUnposted n = none) (a : AccountNo) :
    (s.account a).settledThrough = n := by
  have hall := List.find?_eq_none.1 h a (List.mem_map.2 ⟨a - 1, List.mem_finRange _, accountNo_sub_add a⟩)
  simpa using hall

/-- The list of accounts in post order places each at its rank. -/
theorem postOrder_getElem (i : Nat) (h : i < 48) :
    postRank (((List.finRange 48).map fun j : AccountNo => j + 1)[i]'(by simpa using h)) = i := by
  simp only [List.getElem_map, List.getElem_finRange, postRank, Fin.val_add]
  have hone : (1 : AccountNo).val = 1 := rfl
  simp only [Fin.val_cast, hone]
  omega

/-- All accounts before the first unposted one are posted. -/
theorem State.firstUnposted_first {s : State} {n : Nat} {a : AccountNo} (h : s.firstUnposted n = some a)
    {b : AccountNo} (hb : postRank b < postRank a) : (s.account b).settledThrough = n := by
  obtain ⟨-, i, hi, ha, hbefore⟩ := List.find?_eq_some_iff_getElem.1 h
  have hi' : i < 48 := by simpa using hi
  have hrank : postRank a = i := by rw [← ha]; exact postOrder_getElem i hi'
  have hbi : postRank b < i := hrank ▸ hb
  have heq := postRank_injective (postOrder_getElem (postRank b) (by omega))
  have := hbefore (postRank b) hbi
  rw [heq] at this
  simpa using this

theorem Kept.settledThrough : Kept State.settledThroughLaw where
  store s t h hs := by
    cases h with
    | detach m k =>
      obtain ⟨_, _, h, hpos⟩ := s.dropAssignment_fields m
      refine State.settledThroughLaw_congr (fun a => ?_) (by rw [h]; rfl) (by rw [h]; rfl) hs
      obtain ⟨_, ha⟩ := hpos a
      rw [h]
      have kept := congrArg Account.settledThrough ha
      exact kept
    | assign m g =>
      obtain ⟨_, _, h, hpos⟩ := s.placeMeter_fields m (s.meter m).service g
      refine State.settledThroughLaw_congr (fun a => ?_) (by rw [h]; rfl) (by rw [h]; rfl) hs
      obtain ⟨_, ha⟩ := hpos a
      rw [h]
      have kept := congrArg Account.settledThrough ha
      exact kept
    | work a w => exact State.settledThroughLaw_congr (State.settledThrough_setAccount rfl) rfl rfl hs
    | tenancy a r h => exact State.settledThroughLaw_congr (State.settledThrough_setAccount h.settledThrough) rfl rfl hs
    | settings a x => exact State.settledThroughLaw_congr (State.settledThrough_setAccount rfl) rfl rfl hs
    | boundary elapsed store idle =>
      have hacc (a : AccountNo) : (((s.setClock { s.clock with elapsed := elapsed }).boundary).account a).settledThrough =
          (s.account a).settledThrough := by
        rw [State.boundary_account, Account.atBoundary_settledThrough]
        rfl
      rw [State.settledThroughLaw, idle] at hs
      intro a
      rw [hacc, State.lastSettled, State.boundary_eq]
      exact hs a
    | alignment elapsed store =>
      refine State.settledThroughLaw_congr (fun a => ?_) ?_ ?_ hs
      · rw [State.alignmentBoundary_account]
        split <;> simp only [Account.atBoundary_settledThrough] <;> rfl
      · rw [State.alignmentBoundary_eq]
        rfl
      · rw [State.alignmentBoundary_eq]
        rfl
    | initialise idle =>
      have hidle : s.initialise.settle = .idle := idle
      rw [State.settledThroughLaw, hidle]
      intro a
      rw [State.initialise_account]
      rfl
    | takeStatement x rest =>
      have hacc := State.settledThrough_releaseStatement { s with queue := rest } x
      obtain ⟨_, h⟩ := State.releaseStatement_fields { s with queue := rest } x
      exact State.settledThroughLaw_congr hacc (by rw [h]) (by rw [h]) hs
    | computeRead b rs h =>
      rw [State.settledThroughLaw, h] at hs
      rw [State.computeRead_eq h]
      split
      · exact hs
      · intro a
        simp only [postRank, Fin.val_one, Nat.reduceAdd, Nat.mod_self, Nat.not_lt_zero, if_false]
        exact hs a
    | post b r a h =>
      rw [State.settledThroughLaw, h] at hs
      have hacc (c : AccountNo) : ((s.setAccount a ((s.account a).post b a (r.accounts.get a)
          (r.estimateCredited.get a))).account c).settledThrough =
          if postRank c ≤ postRank a then b.interval else s.lastSettled := by
        rw [State.account_setAccount]
        split
        · next hac => subst hac; rw [if_pos (Nat.le_refl _)]; rfl
        · next hac =>
          rw [hs c]
          have hne : postRank c ≠ postRank a := fun h' => hac (postRank_injective h').symm
          simp only [Nat.lt_iff_le_and_ne, hne, ne_eq, not_false_eq_true, and_true]
      split
      · next ha =>
        intro c
        refine (hacc c).trans (if_pos ?_)
        rw [ha, postRank_zero]
        exact Nat.le_of_lt_succ (postRank_lt c)
      · next ha =>
        intro c
        refine (hacc c).trans ?_
        rw [postRank_nextPost ha]
        simp only [Nat.lt_succ_iff]
        rfl
    | visit b r a done h =>
      rw [State.settledThroughLaw, h] at hs
      exact fun c => (s.visitAccount_settledThrough b a c).trans (hs c)
    | periodStep b r next done h =>
      rw [State.settledThroughLaw, h] at hs
      rw [State.periodStep_eq h]
      exact hs
    | summary b r next done h =>
      rw [State.settledThroughLaw, h] at hs
      rw [State.summaryWrite_eq h]
      exact hs
    | _ => exact hs
  outside _ _ _ _ _ _ _ _ hs := hs
  resume s hs := by
    unfold State.resumeSettle
    split
    · exact hs
    · next h => rw [State.settledThroughLaw, h] at hs; exact hs
    · next b r c h =>
      have hlaw := hs
      rw [State.settledThroughLaw, h] at hs
      cases hfirst : s.firstUnposted b.interval with
      | none => rwa [Option.getD_none, ← h]
      | some a =>
        have hlater : ¬ postRank a < postRank c := fun hlt =>
          State.firstUnposted_mem hfirst ((hs a).trans (if_pos hlt))
        have hlast : s.lastSettled ≠ b.interval := fun hlast =>
          State.firstUnposted_mem hfirst ((hs a).trans (by rw [hlast, ite_self]))
        have hsame : a = c := by
          refine postRank_injective (Nat.le_antisymm ?_ (Nat.le_of_not_lt hlater))
          refine Classical.byContradiction fun hlt => ?_
          have hposted := State.firstUnposted_first hfirst (Nat.lt_of_not_le hlt)
          rw [hs c, if_neg (Nat.lt_irrefl _)] at hposted
          exact hlast hposted
        rwa [Option.getD_some, hsame, ← h]
    · exact hs
  powerOn _ _ a := by
    change ((State.reset.account a).settledThrough) = 0
    simp only [State.reset, State.account, Table.get_set, Table.get_fill]
    split <;> rfl

/-- Settles O52: a post moves one account over the cursor, the summary makes the bank's interval the newest, and no other
operation writes a settled-through value but INITIALISE ACCOUNTS, which empties the ring. -/
theorem settledThroughKept : Obligations.SettledThroughKept :=
  fun _ _ hs h => Kept.settledThrough.step (fun _ _ hs => hs) h hs

end Sys2Proof.Machine
end

section
/-!
PROOF. The meter uniqueness law (R55) and the line mapping law (R67).
-/

namespace Sys2Proof.Machine

/-! ## The meter uniqueness law (R55) -/

/-- The law looks at the slots' addresses, states, services and targets, the meter positions and the pool lists. -/
theorem State.meterUniqueness_congr {s t : State} (hm : ∀ m, (s.meter m).Measured (t.meter m))
    (hpos : ∀ a, (t.account a).meterPos = (s.account a).meterPos) (hpools : t.pools = s.pools)
    (h : s.meterUniqueness) : t.meterUniqueness := by
  obtain ⟨haddress, hpositions, hlists⟩ := h
  refine ⟨fun m n hn hk heq => ?_, fun a sv m => ?_, fun q => ?_⟩
  · rw [(hm m).address, (hm n).address] at heq
    exact haddress m n (fun h => hn ((hm m).off h)) (fun h => hk ((hm n).off h)) heq
  · rw [hpos, (hm m).target, (hm m).service]
    exact hpositions a sv m
  · rw [hpools]
    obtain ⟨hmem, hlist⟩ := hlists q
    exact ⟨fun m => by rw [(hm m).target]; exact hmem m, hlist⟩

theorem State.meter_setMeter_of_meters {s t : State} (h : t.meters = s.meters) (m n : SlotNo) (k : MeterSlot) :
    (t.setMeter m k).meter n = if m = n then k else s.meter n := by
  rw [State.meter_setMeter, State.meter, h]
  rfl

/-- A slot whose target goes leaves its place: no position and no list names it. -/
theorem State.meterUniqueness_detach {s : State} {m : SlotNo} {k : MeterSlot} (address : k.address = (s.meter m).address)
    (off : (s.meter m).state = .off → k.state = .off) (target : k.target = .unassigned) (h : s.meterUniqueness) :
    ((s.dropAssignment m).setMeter m k).meterUniqueness := by
  obtain ⟨haddress, hpositions, hlists⟩ := h
  have hmeters : (s.dropAssignment m).meters = s.meters := by
    obtain ⟨_, _, h, -⟩ := s.dropAssignment_fields m
    rw [h]
  have hmeter := State.meter_setMeter_of_meters hmeters m (k := k)
  refine ⟨fun n l hn hl heq => ?addresses, fun a sv n => ?positions, fun q => ?lists⟩
  case addresses =>
    have old (x : SlotNo) : (((s.dropAssignment m).setMeter m k).meter x).address = (s.meter x).address ∧
        ((s.meter x).state = .off → (((s.dropAssignment m).setMeter m k).meter x).state = .off) := by
      rw [hmeter]
      split
      · next hx => subst hx; exact ⟨address, off⟩
      · exact ⟨rfl, id⟩
    rw [(old n).1, (old l).1] at heq
    exact haddress n l (fun h => hn ((old n).2 h)) (fun h => hl ((old l).2 h)) heq
  case positions =>
    have hpos : (((s.dropAssignment m).setMeter m k).account a).meterPos.get sv =
        if (s.account a).meterPos.get sv = some m then none else (s.account a).meterPos.get sv := by
      change ((s.dropAssignment m).account a).meterPos.get sv = _
      unfold State.dropAssignment
      split
      · next ht =>
        rw [if_neg fun h => ?_]
        have := ((hpositions a sv m).1 h).1
        rw [ht] at this
        cases this
      · next b ht =>
        rw [State.account_setAccount]
        split
        · next hb => subst hb; simp only [Account.removeMeter, PerService.get_map]
        · next hb =>
          rw [if_neg fun h => hb ?_]
          have := ((hpositions a sv m).1 h).1
          rw [ht] at this
          cases this
          rfl
      · next q ht =>
        rw [if_neg fun h => ?_]
        · rfl
        · have := ((hpositions a sv m).1 h).1
          rw [ht] at this
          cases this
    rw [hpos, hmeter]
    by_cases hmn : m = n
    · subst hmn
      rw [if_pos rfl, target]
      split <;> simp_all
    · rw [if_neg hmn, ← hpositions a sv n]
      split
      · next hm => rw [hm]; simp [hmn]
      · rfl
  case lists =>
    obtain ⟨hmem, hnodup, hlen⟩ := hlists q
    have hpool : ((s.dropAssignment m).setMeter m k).pools.get q =
        (s.pools.get q).filter fun n => decide (n ≠ m) := by
      have absent (hnot : (s.meter m).target ≠ .pool q) :
          s.pools.get q = (s.pools.get q).filter fun n => decide (n ≠ m) := by
        refine (List.filter_eq_self.2 fun n hn => ?_).symm
        refine decide_eq_true fun h => hnot ?_
        subst h
        exact (hmem n).1 hn
      change (s.dropAssignment m).pools.get q = _
      unfold State.dropAssignment
      split
      · next ht => exact absent (by rw [ht]; exact fun h => nomatch h)
      · next b ht => exact absent (by rw [ht]; exact fun h => nomatch h)
      · next p ht =>
        rw [PerPool.get_set]
        split
        · next hp => rw [hp]
        · next hp => exact absent (by rw [ht]; exact fun h => hp (by cases h; rfl))
    rw [hpool]
    refine ⟨fun n => ?_, hnodup.filter _, Nat.le_trans (List.length_filter_le _ _) hlen⟩
    rw [List.mem_filter, decide_eq_true_eq, hmeter]
    by_cases hmn : m = n
    · subst hmn
      simp [target]
    · rw [if_neg hmn, ← hmem n]
      exact and_iff_left fun h => hmn h.symm

/-- An unassigned slot takes a place that is free for it. -/
theorem State.meterUniqueness_assign {s : State} {m : SlotNo} {g : Target} (target : (s.meter m).target = .unassigned)
    (free : s.targetFree (s.meter m) g = true) (h : s.meterUniqueness) :
    ((s.placeMeter m (s.meter m).service g).setMeter m
      { s.meter m with target := g, owner := g }).meterUniqueness := by
  obtain ⟨haddress, hpositions, hlists⟩ := h
  have hmeters : (s.placeMeter m (s.meter m).service g).meters = s.meters := by
    obtain ⟨_, _, h, -⟩ := s.placeMeter_fields m (s.meter m).service g
    rw [h]
  have hmeter := State.meter_setMeter_of_meters hmeters m (k := { s.meter m with target := g, owner := g })
  have unplaced (a : AccountNo) (sv : Service) : (s.account a).meterPos.get sv ≠ some m := fun h => by
    have := ((hpositions a sv m).1 h).1
    rw [target] at this
    cases this
  have unlisted (q : Pool) : m ∉ s.pools.get q := fun h => by
    have := ((hlists q).1 m).1 h
    rw [target] at this
    cases this
  refine ⟨fun n l hn hl heq => ?addresses, fun a sv n => ?positions, fun q => ?lists⟩
  case addresses =>
    have old (x : SlotNo) : ((State.setMeter (s.placeMeter m (s.meter m).service g) m
          { s.meter m with target := g, owner := g }).meter x).address = (s.meter x).address ∧
        ((State.setMeter (s.placeMeter m (s.meter m).service g) m
          { s.meter m with target := g, owner := g }).meter x).state = (s.meter x).state := by
      rw [hmeter]
      split
      · next hx => subst hx; exact ⟨rfl, rfl⟩
      · exact ⟨rfl, rfl⟩
    rw [(old n).1, (old l).1] at heq
    rw [(old n).2] at hn
    rw [(old l).2] at hl
    exact haddress n l hn hl heq
  case positions =>
    have hpos : ((State.setMeter (s.placeMeter m (s.meter m).service g) m
          { s.meter m with target := g, owner := g }).account a).meterPos.get sv =
        if g = .account a ∧ (s.meter m).service.credits sv = true then some m
        else (s.account a).meterPos.get sv := by
      change ((s.placeMeter m (s.meter m).service g).account a).meterPos.get sv = _
      unfold State.placeMeter
      split
      · next b =>
        rw [State.account_setAccount]
        split
        · next hb => subst hb; simp only [PerService.get_ofFn, true_and]
        · next hb => rw [if_neg fun h => hb (by cases h.1; rfl)]
      · exact (if_neg fun h => nomatch h.1).symm
      · exact (if_neg fun h => nomatch h.1).symm
    rw [hpos, hmeter]
    by_cases hmn : m = n
    · subst hmn
      rw [if_pos rfl]
      split
      · next hc => simpa using hc
      · next hc => exact ⟨fun h => absurd h (unplaced a sv), fun h => absurd h hc⟩
    · rw [if_neg hmn, ← hpositions a sv n]
      split
      · next hc =>
        obtain ⟨rfl, hcredits⟩ := hc
        have empty : (s.account a).meterPos.get sv = none := by
          simp only [State.targetFree, Bool.and_eq_true, Bool.not_eq_true', Bool.and_eq_false_iff] at free
          cases sv with
          | heating =>
            change (s.account a).meterPos.heating = none
            simpa [hcredits] using free.1
          | cooling =>
            change (s.account a).meterPos.cooling = none
            simpa [hcredits] using free.2
        rw [empty]
        simp [hmn]
      · rfl
  case lists =>
    obtain ⟨hmem, hnodup, hlen⟩ := hlists q
    have hpool : (State.setMeter (s.placeMeter m (s.meter m).service g) m
          { s.meter m with target := g, owner := g }).pools.get q =
        if g = .pool q then s.pools.get q ++ [m] else s.pools.get q := by
      change (s.placeMeter m (s.meter m).service g).pools.get q = _
      unfold State.placeMeter
      split
      · exact (if_neg fun h => nomatch h).symm
      · next p =>
        rw [PerPool.get_set]
        split
        · next hp => rw [hp, if_pos rfl]
        · next hp => rw [if_neg fun h => hp (by cases h; rfl)]
      · exact (if_neg fun h => nomatch h).symm
    rw [hpool]
    split
    · next hg =>
      subst hg
      refine ⟨fun n => ?_, ?_, ?_⟩
      · rw [List.mem_append, List.mem_singleton, hmeter]
        by_cases hmn : m = n
        · simp [hmn]
        · rw [if_neg hmn, ← hmem n]
          exact or_iff_left fun h => hmn h.symm
      · exact List.nodup_append.2 ⟨hnodup, List.pairwise_singleton _ m, fun x hx y hy h =>
          unlisted q (by rw [List.mem_singleton] at hy; subst hy; subst h; exact hx)⟩
      · rw [List.length_append]
        have hroom : (s.pools.get q).length < Config.poolMax := of_decide_eq_true free
        exact hroom
    · next hg =>
      refine ⟨fun n => ?_, hnodup, hlen⟩
      rw [hmeter]
      by_cases hmn : m = n
      · subst hmn
        rw [if_pos rfl]
        exact ⟨fun h => absurd h (unlisted q), fun h => absurd h hg⟩
      · rw [if_neg hmn]
        exact hmem n

/-- A slot configured at an address that no other slot in use holds, an assigned one with its service. -/
theorem State.meterUniqueness_configure {s : State} {m : SlotNo} {k : MeterSlot}
    (address : ∀ n, n ≠ m → (s.meter n).state ≠ .off → (s.meter n).address ≠ k.address)
    (service : (s.meter m).target ≠ .unassigned → k.service = (s.meter m).service)
    (target : k.target = (s.meter m).target) (h : s.meterUniqueness) : (s.setMeter m k).meterUniqueness := by
  obtain ⟨haddress, hpositions, hlists⟩ := h
  refine ⟨fun n l hn hl heq => ?addresses, fun a sv n => ?positions, fun q => ⟨fun n => ?lists, (hlists q).2⟩⟩
  case addresses =>
    rw [State.meter_setMeter] at hn heq
    rw [State.meter_setMeter] at hl heq
    split at hn
    · next hmn =>
      split at hl
      · next hml => exact hmn.symm.trans hml
      · next hml =>
        rw [if_pos hmn, if_neg hml] at heq
        exact absurd heq.symm (address l (fun h => hml h.symm) hl)
    · next hmn =>
      split at hl
      · next hml =>
        rw [if_neg hmn, if_pos hml] at heq
        exact absurd heq (address n (fun h => hmn h.symm) hn)
      · next hml =>
        rw [if_neg hmn, if_neg hml] at heq
        exact haddress n l hn hl heq
  case positions =>
    refine (hpositions a sv n).trans ?_
    rw [State.meter_setMeter]
    split
    · next hmn =>
      subst hmn
      rw [target]
      refine and_congr_right fun ht => ?_
      rw [service (by rw [ht]; exact fun h => nomatch h)]
    · rfl
  case lists =>
    refine ((hlists q).1 n).trans ?_
    rw [State.meter_setMeter]
    split
    · next hmn => subst hmn; rw [target]
    · rfl

theorem State.meterPos_setAccount {s : State} {a : AccountNo} {r : Account}
    (h : r.meterPos = (s.account a).meterPos) (b : AccountNo) :
    ((s.setAccount a r).account b).meterPos = (s.account b).meterPos := by
  rw [State.account_setAccount]
  split
  · next hab => rw [h, hab]
  · rfl

theorem State.meterUniqueness_setAccount {s : State} {a : AccountNo} {r : Account}
    (h : r.meterPos = (s.account a).meterPos) (hs : s.meterUniqueness) : (s.setAccount a r).meterUniqueness :=
  State.meterUniqueness_congr (s := s) (fun _ => .refl _) (State.meterPos_setAccount h) rfl hs

theorem Kept.meterUniqueness : Kept State.meterUniqueness where
  store s t h hs := by
    cases h with
    | meters ms h => exact State.meterUniqueness_congr h (fun _ => rfl) rfl hs
    | configure m k address service target => exact State.meterUniqueness_configure address service target hs
    | detach m k address off target => exact State.meterUniqueness_detach address off target hs
    | assign m g target free => exact State.meterUniqueness_assign target free hs
    | work a w => exact State.meterUniqueness_setAccount rfl hs
    | tenancy a r h => exact State.meterUniqueness_setAccount h.meterPos hs
    | settings a x => exact State.meterUniqueness_setAccount rfl hs
    | post b r a h =>
      have posted := State.meterUniqueness_setAccount (a := a)
        (r := (s.account a).post b a (r.accounts.get a) (r.estimateCredited.get a)) rfl hs
      exact posted
    | boundary elapsed =>
      refine State.meterUniqueness_congr (s := s) (fun m => ?_) (fun a => ?_) ?_ hs
      · rw [State.boundary_meter]
        exact (MeterSlot.atBoundary_measured _).trans (MeterSlot.emptied_measured _)
      · rw [State.boundary_account, Account.atBoundary_meterPos]
        rfl
      · rw [State.boundary_eq]
        rfl
    | alignment elapsed =>
      refine State.meterUniqueness_congr (s := s) (fun m => ?_) (fun a => ?_) ?_ hs
      · rw [State.alignmentBoundary_meter]
        exact (MeterSlot.unseen_measured _).trans (MeterSlot.emptied_measured _)
      · rw [State.alignmentBoundary_account]
        split <;> simp only [Account.atBoundary_meterPos] <;> rfl
      · rw [State.alignmentBoundary_eq]
        rfl
    | initialise =>
      refine State.meterUniqueness_congr (s := s) (fun _ => .refl _) (fun a => ?_) rfl hs
      rw [State.initialise_account]
      rfl
    | takeStatement x rest =>
      obtain ⟨_, h⟩ := State.releaseStatement_fields { s with queue := rest } x
      refine State.meterUniqueness_congr (s := s) (fun m => ?_) (fun a => ?_) ?_ hs
      · rw [h]
        exact .refl _
      · obtain ⟨_, _, _, _, h⟩ := State.account_releaseStatement { s with queue := rest } x a
        rw [h]
        rfl
      · rw [h]
    | computeRead b rs h => rw [State.computeRead_eq h]; exact hs
    | visit b r a done h =>
      obtain ⟨_, _, hv⟩ := s.visitAccount_fields b a
      refine State.meterUniqueness_congr (s := s) (fun m => ?_) (fun c => ?_) ?_ hs
      · rw [hv]
        exact .refl _
      · obtain ⟨_, _, h⟩ := s.account_visitAccount b a c
        have kept := congrArg Account.meterPos h
        exact kept
      · rw [hv]
        rfl
    | periodStep b r next done h => rw [State.periodStep_eq h]; exact hs
    | summary b r next done h => rw [State.summaryWrite_eq h]; exact hs
    | _ => exact hs
  outside _ _ _ _ _ _ _ _ hs := hs
  resume s hs := by
    unfold State.resumeSettle
    split <;> exact hs
  powerOn _ _ := by
    have hmeter (m : SlotNo) : (State.reset.meter m) = MeterSlot.initial := Table.get_fill _ _
    have hpos (a : AccountNo) (sv : Service) : (State.reset.account a).meterPos.get sv = none := by
      simp only [State.reset, State.account, Table.get_set, Table.get_fill]
      cases sv <;> split <;> rfl
    refine ⟨fun m k h _ _ => ?_, fun a sv m => ?_, fun q => ⟨fun m => ?_, ?_, ?_⟩⟩
    · exact absurd (congrArg MeterSlot.state (hmeter m)) h
    · change (State.reset.account a).meterPos.get sv = some m ↔ (State.reset.meter m).target = _ ∧ _
      rw [hpos, hmeter]
      exact ⟨fun h => (nomatch h), fun h => (nomatch h.1)⟩
    · change m ∈ State.reset.pools.get q ↔ (State.reset.meter m).target = _
      rw [hmeter]
      cases q <;> exact ⟨fun h => (nomatch h), fun h => (nomatch h)⟩
    · cases q <;> exact List.nodup_nil
    · cases q <;> exact Nat.zero_le _

/-- Settles O53: configuration, assignment and the removal of an assignment alone touch what the law speaks of, and each
is tested against it. -/
theorem meterUniquenessKept : Obligations.MeterUniquenessKept :=
  fun _ _ hs h => Kept.meterUniqueness.step (fun _ _ hs => hs) h hs

/-! ## The line mapping law (R67) -/

theorem State.lineMappingLaw_congr {s t : State} (hforce : ∀ a, (t.account a).inForce = (s.account a).inForce)
    (hstaged : ∀ a, (t.account a).stagedSettings = (s.account a).stagedSettings) (h : s.lineMappingLaw) :
    t.lineMappingLaw := by
  unfold State.lineMappingLaw Account.nextLine at *
  simpa only [hforce, hstaged] using h

/-- Settings that come into force for every account map each line at most once, as the staged ones did. -/
theorem State.lineMappingLaw_of_applied {s t : State}
    (hforce : ∀ a, (t.account a).inForce = (s.account a).stagedSettings.getD (s.account a).inForce)
    (hstaged : ∀ a, (t.account a).stagedSettings = none) (h : s.lineMappingLaw) : t.lineMappingLaw := by
  have next : linesMappedOnce (fun a sv => (t.account a).inForce.line.get sv) := by
    simp only [hforce]
    exact h.2
  refine ⟨next, ?_⟩
  simp only [Account.nextLine, hstaged, Option.getD_none]
  exact next

theorem State.lineMappingLaw_setAccount {s : State} {a : AccountNo} {r : Account}
    (hforce : r.inForce = (s.account a).inForce) (hstaged : r.stagedSettings = (s.account a).stagedSettings)
    (h : s.lineMappingLaw) : (s.setAccount a r).lineMappingLaw := by
  refine State.lineMappingLaw_congr (fun b => ?_) (fun b => ?_) h <;> rw [State.account_setAccount] <;> split
  · next hab => rw [hforce, hab]
  · rfl
  · next hab => rw [hstaged, hab]
  · rfl

/-- Settings staged without a clash keep the law: R15's test is the law's clause for the next boundary. -/
theorem State.lineMappingLaw_settings {s : State} {a : AccountNo} {x : Settings} (free : s.lineClash a x.line = false)
    (h : s.lineMappingLaw) :
    (s.setAccount a { s.account a with stagedSettings := some x }).lineMappingLaw := by
  have clash : ¬ ((x.line.heating = x.line.cooling ∧ x.line.heating ≠ none) ∨ ∃ b sv l, b ≠ a ∧
      s.lineAfter b sv = some l ∧ (x.line.heating = some l ∨ x.line.cooling = some l)) :=
    fun h => by simp [(s.lineClash_iff a x.line.heating x.line.cooling).2 h] at free
  simp only [State.lineAfter_eq_nextLine] at clash
  obtain ⟨hown, hother⟩ := not_or.1 clash
  have next (b : AccountNo) (sv : Service) : ((s.setAccount a { s.account a with stagedSettings := some x }).account
      b).nextLine sv = if b = a then x.line.get sv else (s.account b).nextLine sv := by
    rw [State.account_setAccount]
    by_cases hb : b = a
    · subst hb; simp [Account.nextLine]
    · rw [if_neg (fun h => hb h.symm), if_neg hb]
  have named (b : AccountNo) (sv tv : Service) (l : LineNo) (hb : b ≠ a) (hl : (s.account b).nextLine sv = some l) :
      x.line.get tv ≠ some l := fun hx =>
    hother ⟨b, sv, l, hb, hl, by cases tv with | heating => exact .inl hx | cooling => exact .inr hx⟩
  have own (sv tv : Service) (l : LineNo) (hs : x.line.get sv = some l) (ht : x.line.get tv = some l) : sv = tv := by
    have same (h1 : x.line.heating = some l) (h2 : x.line.cooling = some l) : False :=
      hown ⟨h1.trans h2.symm, by rw [h1]; exact fun h => nomatch h⟩
    cases sv <;> cases tv
    · rfl
    · exact (same hs ht).elim
    · exact (same ht hs).elim
    · rfl
  refine ⟨?_, fun b c sv tv l hb hc => ?_⟩
  · have hforce (b : AccountNo) : ((s.setAccount a { s.account a with stagedSettings := some x }).account b).inForce =
        (s.account b).inForce := by
      rw [State.account_setAccount]
      split
      · next hab => rw [hab]
      · rfl
    simp only [hforce]
    exact h.1
  · simp only [next] at hb hc
    split at hb
    · next hba =>
      split at hc
      · next hca => exact ⟨hba.trans hca.symm, own sv tv l hb hc⟩
      · next hca => exact absurd hb (named c tv sv l hca hc)
    · next hba =>
      split at hc
      · next hca => exact absurd hc (named b sv tv l hba hb)
      · next hca => exact h.2 b c sv tv l hb hc

theorem Kept.lineMapping : Kept State.lineMappingLaw where
  store s t h hs := by
    cases h with
    | detach m k =>
      obtain ⟨_, _, h, hpos⟩ := s.dropAssignment_fields m
      rw [h]
      refine State.lineMappingLaw_congr (s := s) (fun a => ?_) (fun a => ?_) hs <;> obtain ⟨_, ha⟩ := hpos a
      · have kept := congrArg Account.inForce ha
        exact kept
      · have kept := congrArg Account.stagedSettings ha
        exact kept
    | assign m g =>
      obtain ⟨_, _, h, hpos⟩ := s.placeMeter_fields m (s.meter m).service g
      rw [h]
      refine State.lineMappingLaw_congr (s := s) (fun a => ?_) (fun a => ?_) hs <;> obtain ⟨_, ha⟩ := hpos a
      · have kept := congrArg Account.inForce ha
        exact kept
      · have kept := congrArg Account.stagedSettings ha
        exact kept
    | work a w => exact State.lineMappingLaw_setAccount rfl rfl hs
    | tenancy a r h => exact State.lineMappingLaw_setAccount h.inForce h.stagedSettings hs
    | settings a x free => exact State.lineMappingLaw_settings free hs
    | post b r a h =>
      have posted := State.lineMappingLaw_setAccount (a := a)
        (r := (s.account a).post b a (r.accounts.get a) (r.estimateCredited.get a)) rfl rfl hs
      exact posted
    | boundary elapsed =>
      refine State.lineMappingLaw_of_applied (s := s) (fun a => ?_) (fun a => ?_) hs <;> rw [State.boundary_account]
      · rw [Account.atBoundary_inForce]
        rfl
      · rw [Account.atBoundary_stagedSettings]
    | alignment elapsed =>
      refine State.lineMappingLaw_of_applied (s := s) (fun a => ?_) (fun a => ?_) hs <;>
        rw [State.alignmentBoundary_account] <;> split
      · simp only [Account.atBoundary_inForce]; rfl
      · simp only [Account.atBoundary_inForce]; rfl
      · simp only [Account.atBoundary_stagedSettings]
      · simp only [Account.atBoundary_stagedSettings]
    | initialise =>
      refine State.lineMappingLaw_congr (s := s) (fun a => ?_) (fun a => ?_) hs <;>
        rw [State.initialise_account] <;> rfl
    | takeStatement x rest =>
      refine State.lineMappingLaw_congr (s := s) (fun a => ?_) (fun a => ?_) hs <;>
        obtain ⟨_, _, _, _, h⟩ := State.account_releaseStatement { s with queue := rest } x a <;> rw [h] <;> rfl
    | computeRead b rs h => rw [State.computeRead_eq h]; exact hs
    | visit b r a done h =>
      refine State.lineMappingLaw_congr (s := s) (fun c => ?_) (fun c => ?_) hs <;>
        obtain ⟨_, _, h⟩ := s.account_visitAccount b a c
      · have kept := congrArg Account.inForce h
        exact kept
      · have kept := congrArg Account.stagedSettings h
        exact kept
    | periodStep b r next done h => rw [State.periodStep_eq h]; exact hs
    | summary b r next done h => rw [State.summaryWrite_eq h]; exact hs
    | _ => exact hs
  outside _ _ _ _ _ _ _ _ hs := hs
  resume s hs := by
    unfold State.resumeSettle
    split <;> exact hs
  powerOn _ _ := by
    have unmapped (a : AccountNo) (sv : Service) : (State.reset.account a).inForce.line.get sv = none ∧
        (State.reset.account a).nextLine sv = none := by
      simp only [State.reset, State.account, Table.get_set, Table.get_fill]
      cases sv <;> split <;> exact ⟨rfl, rfl⟩
    refine ⟨fun a b sv tv l h _ => ?_, fun a b sv tv l h _ => ?_⟩
    · exact absurd ((unmapped a sv).1.symm.trans h) (fun h => nomatch h)
    · exact absurd ((unmapped a sv).2.symm.trans h) (fun h => nomatch h)

/-- Settles O54: SET ACCOUNT is refused a line that another account service will hold, and the boundaries bring into force
what the law already holds of. -/
theorem lineMappingKept : Obligations.LineMappingKept :=
  fun _ _ hs h => Kept.lineMapping.step (fun _ _ hs => hs) h hs

end Sys2Proof.Machine
end

section
/-!
PROOF. The statement-bound law with the tenancy states proper (R1, R5, R17, R131).
-/

namespace Sys2Proof.Machine

/-! ## The tenancy states -/

theorem Account.proper_congr {r t : Account} (hten : t.tenancy = r.tenancy) (hstaged : t.staged = r.staged)
    (htag : t.tag = r.tag) (h : r.proper) : t.proper := by
  unfold Account.proper at *
  rwa [hten, hstaged, htag]

theorem State.tenanciesProper_congr {s t : State} (hten : ∀ a, (t.account a).tenancy = (s.account a).tenancy)
    (hstaged : ∀ a, (t.account a).staged = (s.account a).staged) (htag : ∀ a, (t.account a).tag = (s.account a).tag)
    (h : s.tenanciesProper) : t.tenanciesProper := by
  obtain ⟨hproper, hzero, htagZero, hjoined⟩ := h
  exact ⟨fun a => Account.proper_congr (hten a) (hstaged a) (htag a) (hproper a), (hten 0).trans hzero,
    (htag 0).trans htagZero, fun a ha => hjoined a ((hten a).symm.trans ha)⟩

theorem State.tenanciesProper_setAccount {s : State} {a : AccountNo} {r : Account}
    (hproper : (s.account a).proper → r.proper) (ha : a ≠ 0) (hjoined : r.tenancy = .joined → (lowerOf a).isSome = true)
    (h : s.tenanciesProper) : (s.setAccount a r).tenanciesProper := by
  obtain ⟨hall, hzero, htag, hpair⟩ := h
  have hself : (s.setAccount a r).account 0 = s.account 0 := by
    rw [State.account_setAccount, if_neg ha]
  refine ⟨fun b => ?_, by rw [hself]; exact hzero, by rw [hself]; exact htag, fun b hb => ?_⟩
  · rw [State.account_setAccount]
    split
    · exact hproper (hall a)
    · exact hall b
  · rw [State.account_setAccount] at hb
    split at hb
    · next hab => exact hab ▸ hjoined hb
    · exact hpair b hb

/-- The tenancy state a boundary leaves (R11). -/
def Tenancy.afterBoundary : Tenancy → Tenancy
  | .opening => .occupied
  | .closing => .final
  | .vacant => .vacant
  | .occupied => .occupied
  | .final => .final
  | .joined => .joined

theorem Account.atBoundary_tenancy (r : Account) (n : Nat) : (r.atBoundary n).tenancy = r.tenancy.afterBoundary := by
  have happlied : r.applySettings.tenancy = r.tenancy := rfl
  cases h : r.tenancy <;> simp only [Account.atBoundary, Account.completeMove, happlied, h, Tenancy.afterBoundary]

theorem Account.atBoundary_proper {r : Account} (h : r.proper) (n : Nat) : (r.atBoundary n).proper := by
  have happlied : r.applySettings.tenancy = r.tenancy := rfl
  have hproper : r.applySettings.proper := Account.proper_congr rfl rfl rfl h
  cases hten : r.tenancy with
  | opening =>
    simp only [Account.proper, hten] at h
    obtain ⟨⟨tag, hstaged⟩, -⟩ := h
    have hstaged' : r.applySettings.staged = some (.moveIn tag) := hstaged
    simp [Account.atBoundary, Account.completeMove, happlied, hten, hstaged', Account.proper]
  | closing =>
    simp only [Account.proper, hten] at h
    simp only [Account.atBoundary, Account.completeMove, happlied, hten, Account.proper]
    exact ⟨trivial, h.2⟩
  | _ => simpa only [Account.atBoundary, Account.completeMove, happlied, hten] using hproper

theorem Account.atBoundary_tag_of_occupied {r : Account} (h : r.tenancy = .occupied) (n : Nat) :
    (r.atBoundary n).tag = r.tag := by
  have happlied : r.applySettings.tenancy = r.tenancy := rfl
  simp only [Account.atBoundary, Account.completeMove, happlied, h]
  rfl

/-- The tenancy states after either boundary: each account as R11 leaves it. -/
theorem State.tenanciesProper_of_boundary {s t : State} {n : Nat}
    (hacc : ∀ a, ∃ first, t.account a = { (s.account a).atBoundary n with firstInterval := first })
    (h : s.tenanciesProper) : t.tenanciesProper := by
  obtain ⟨hall, hzero, htag, hpair⟩ := h
  refine ⟨fun a => ?_, ?_, ?_, fun a ha => hpair a ?_⟩
  · obtain ⟨first, ha⟩ := hacc a
    rw [ha]
    exact Account.proper_congr rfl rfl rfl (Account.atBoundary_proper (hall a) n)
  · obtain ⟨first, ha⟩ := hacc 0
    rw [ha]
    exact (Account.atBoundary_tenancy _ n).trans (by rw [hzero]; rfl)
  · obtain ⟨first, ha⟩ := hacc 0
    rw [ha]
    exact (Account.atBoundary_tag_of_occupied hzero n).trans htag
  · obtain ⟨first, hfirst⟩ := hacc a
    rw [hfirst] at ha
    have ha' : (s.account a).tenancy.afterBoundary = .joined := (Account.atBoundary_tenancy _ n).symm.trans ha
    cases hten : (s.account a).tenancy <;> simp [hten, Tenancy.afterBoundary] at ha'
    rfl

/-! ## The queue's counts -/

theorem State.queued_congr {s t : State} (h : t.queue = s.queue) (k : StatementKind) (a : AccountNo) :
    t.queued k a = s.queued k a := by
  rw [State.queued, h]
  rfl

theorem State.queued_cons {s t : State} {x : Statement} (h : s.queue = x :: t.queue) (k : StatementKind)
    (a : AccountNo) : s.queued k a = (if x.kind = k ∧ x.account = a then 1 else 0) + t.queued k a := by
  rw [State.queued, h, List.filter_cons]
  by_cases hk : x.kind = k ∧ x.account = a
  · rw [if_pos hk, if_pos (by simp [hk]), List.length_cons, Nat.add_comm]
    rfl
  · rw [if_neg hk, if_neg (by simpa using hk), Nat.zero_add]
    rfl

theorem State.queued_append {s t : State} {x : Statement} (h : t.queue = s.queue ++ [x]) (k : StatementKind)
    (a : AccountNo) : t.queued k a = s.queued k a + if x.kind = k ∧ x.account = a then 1 else 0 := by
  rw [State.queued, h, List.filter_append, List.length_append]
  by_cases hk : x.kind = k ∧ x.account = a
  · rw [if_pos hk]
    simp [State.queued, hk]
  · rw [if_neg hk]
    have hnone : [x].filter (fun x => decide (x.kind = k) && decide (x.account = a)) = [] := by
      rw [List.filter_cons, if_neg (by simpa using hk), List.filter_nil]
    rw [hnone]
    rfl

theorem State.queued_eq_zero_of_nil {s : State} (h : s.queue = []) (k : StatementKind) (a : AccountNo) :
    s.queued k a = 0 := by rw [State.queued, h]; rfl

theorem State.queued_period_of_not_periodQueued {s : State} (h : s.periodQueued = false) (a : AccountNo) :
    s.queued .period a = 0 := by
  have hnone : ∀ x ∈ s.queue, x.kind ≠ .period := by simpa [State.periodQueued] using h
  rw [State.queued, List.length_eq_zero_iff, List.filter_eq_nil_iff]
  intro x hx
  simp [hnone x hx]

/-! ## The statement-bound law (R131) -/

theorem State.statementBound_congr {s t : State} (hten : ∀ a, (t.account a).tenancy = (s.account a).tenancy)
    (hqueue : t.queue = s.queue) (hclose : t.stagedClose = s.stagedClose) (hbank : t.bank = s.bank)
    (hvisited : ∀ a, s.visited a → t.visited a) (h : s.statementBound) : t.statementBound := by
  have hq := State.queued_congr hqueue
  obtain ⟨hone, hstaged, hperiod, hfinal, hclosing⟩ := h
  refine ⟨fun a => ?_, fun hc => ?_, fun b a hb hend hv => ?_, fun a ha => ?_, fun b a hb hrec hv => ?_⟩
  · rw [hq, hq]
    exact hone a
  · rw [hclose] at hc
    rw [hbank]
    exact ⟨fun a => (hq .period a).trans ((hstaged hc).1 a), (hstaged hc).2⟩
  · rw [hq]
    exact hperiod b a (hbank ▸ hb) hend fun h => hv (hvisited a h)
  · rw [hten]
    exact hfinal a (hq .final a ▸ ha)
  · rw [hten, hq]
    exact hclosing b a (hbank ▸ hb) hrec fun h => hv (hvisited a h)

/-- The two laws together. -/
def State.tenancyLaws (s : State) : Prop := s.tenanciesProper ∧ s.statementBound

/-- Accounts whose tenancy, staged change and tag stay, with the queue and the settle as they were. -/
theorem State.tenancyLaws_congr {s t : State}
    (hacc : ∀ a, ∃ settings staged pos work totals first through, t.account a = { s.account a with
      inForce := settings, stagedSettings := staged, meterPos := pos, work := work, totals := totals
      firstInterval := first, settledThrough := through })
    (hqueue : t.queue = s.queue) (hclose : t.stagedClose = s.stagedClose) (hbank : t.bank = s.bank)
    (hvisited : ∀ a, s.visited a → t.visited a) (h : s.tenancyLaws) : t.tenancyLaws := by
  have kept {α : Type} (f : Account → α) (hf : ∀ r settings staged pos work totals first through,
      f { r with inForce := settings, stagedSettings := staged, meterPos := pos, work := work, totals := totals,
                 firstInterval := first, settledThrough := through } = f r) (a : AccountNo) :
      f (t.account a) = f (s.account a) := by
    obtain ⟨_, _, _, _, _, _, _, ha⟩ := hacc a
    rw [ha]
    exact hf _ _ _ _ _ _ _ _
  have hten := kept Account.tenancy fun _ _ _ _ _ _ _ _ => rfl
  exact ⟨State.tenanciesProper_congr hten (kept Account.staged fun _ _ _ _ _ _ _ _ => rfl)
    (kept Account.tag fun _ _ _ _ _ _ _ _ => rfl) h.1,
    State.statementBound_congr hten hqueue hclose hbank hvisited h.2⟩

/-- One record written whose tenancy, staged change and tag stay. -/
theorem State.tenancyLaws_setAccount {s : State} {a : AccountNo} {r : Account}
    (hr : ∃ settings staged pos work totals first through, r = { s.account a with
      inForce := settings, stagedSettings := staged, meterPos := pos, work := work, totals := totals
      firstInterval := first, settledThrough := through }) (h : s.tenancyLaws) : (s.setAccount a r).tenancyLaws := by
  refine State.tenancyLaws_congr (s := s) (fun b => ?_) rfl rfl rfl (fun _ => id) h
  rw [State.account_setAccount]
  split
  · next hab => exact hab ▸ hr
  · exact ⟨_, _, _, _, _, _, _, rfl⟩

/-- A tenancy change of an account that is not FINAL: no FINAL statement names it, and no settle waits for it. -/
theorem State.statementBound_moves {s : State} {a : AccountNo} {r : Account} (hr : (s.account a).Moves a r)
    (h : s.statementBound) : (s.setAccount a r).statementBound := by
  obtain ⟨hone, hstaged, hperiod, hfinal, hclosing⟩ := h
  have other (b : AccountNo) (hb : (s.account b).tenancy = .final) :
      ((s.setAccount a r).account b).tenancy = (s.account b).tenancy := by
    rw [State.account_setAccount, if_neg]
    rintro rfl
    exact hr.notFinal hb
  refine ⟨hone, hstaged, hperiod, fun b hb => ?_, fun x b hx hrec hv => ?_⟩
  · exact (other b (hfinal b hb)).trans (hfinal b hb)
  · obtain ⟨hten, hnone⟩ := hclosing x b hx hrec hv
    exact ⟨(other b hten).trans hten, hnone⟩

theorem State.fillBank_periodEnd (s : State) : s.metersAtBoundary.fillBank.periodEnd = s.stagedClose := by
  rw [State.metersAtBoundary_eq]
  rfl

theorem State.fillBank_recorded (s : State) (a : AccountNo) :
    (s.metersAtBoundary.fillBank.accounts.get a).recorded = s.recorded a := by
  rw [State.metersAtBoundary_eq, State.fillBank, Table.get_ofFn]
  rfl

theorem State.tenancy_of_recorded_closing {s : State} {a : AccountNo} (h : s.recorded a = .closing) :
    (s.account a).tenancy = .closing := by
  rw [State.recorded_eq] at h
  split at h
  · cases h
  · split at h
    · cases h
    · exact h

theorem State.statementBound_boundary {s : State} (h : s.statementBound) : s.boundary.statementBound := by
  have hq : ∀ k a, s.boundary.queued k a = s.queued k a := State.queued_congr (by rw [State.boundary_eq])
  have hclose : s.boundary.stagedClose = false := rfl
  have hbank (b : Bank) (hb : s.boundary.bank = some b) : b = s.metersAtBoundary.fillBank := by
    rw [State.bank, State.boundary_settle] at hb
    exact (Option.some.inj hb).symm
  have hten (a : AccountNo) : (s.boundary.account a).tenancy = (s.account a).tenancy.afterBoundary := by
    rw [State.boundary_account, Account.atBoundary_tenancy]
  obtain ⟨hone, hstaged, -, hfinal, -⟩ := h
  refine ⟨fun a => ?_, fun hc => ?_, fun b a hb hend _ => ?_, fun a ha => ?_, fun b a hb hrec _ => ?_⟩
  · rw [hq, hq]
    exact hone a
  · rw [hclose] at hc
    cases hc
  · rw [hbank b hb, State.fillBank_periodEnd] at hend
    rw [hq]
    exact (hstaged hend).1 a
  · rw [hq] at ha
    rw [hten, hfinal a ha]
    rfl
  · rw [hbank b hb, State.fillBank_recorded] at hrec
    have hclosing := State.tenancy_of_recorded_closing hrec
    rw [hten, hclosing, hq]
    refine ⟨rfl, Nat.eq_zero_of_not_pos fun hpos => ?_⟩
    rw [hfinal a hpos] at hclosing
    cases hclosing

theorem State.statementBound_alignment {s : State} (h : s.statementBound) : s.alignmentBoundary.statementBound := by
  have hq : ∀ k a, s.alignmentBoundary.queued k a = s.queued k a := State.queued_congr (by rw [State.alignmentBoundary_eq])
  have hten (a : AccountNo) : (s.alignmentBoundary.account a).tenancy = (s.account a).tenancy.afterBoundary := by
    rw [State.alignmentBoundary_account]
    split <;> simp only [Account.atBoundary_tenancy]
  have hfinalStays (a : AccountNo) (ha : (s.account a).tenancy = .final) :
      (s.alignmentBoundary.account a).tenancy = .final := by
    rw [hten, ha]
    rfl
  have hbank : s.alignmentBoundary.bank = s.bank := by rw [State.alignmentBoundary_eq]; rfl
  have hvisited (a : AccountNo) : s.alignmentBoundary.visited a ↔ s.visited a := by
    rw [State.alignmentBoundary_eq]
    rfl
  have hclose : s.alignmentBoundary.stagedClose = s.stagedClose := by rw [State.alignmentBoundary_eq]
  obtain ⟨hone, hstaged, hperiod, hfinal, hclosing⟩ := h
  refine ⟨fun a => ?_, fun hc => ?_, fun b a hb hend hv => ?_, fun a ha => ?_, fun b a hb hrec hv => ?_⟩
  · rw [hq, hq]
    exact hone a
  · rw [hclose] at hc
    simp only [hq, hbank]
    exact hstaged hc
  · rw [hq]
    exact hperiod b a (hbank ▸ hb) hend ((not_congr (hvisited a)).1 hv)
  · exact hfinalStays a (hfinal a (hq .final a ▸ ha))
  · rw [hq]
    have := hclosing b a (hbank ▸ hb) hrec ((not_congr (hvisited a)).1 hv)
    exact ⟨hfinalStays a this.1, this.2⟩

theorem State.statementBound_of_empty {s : State} (hqueue : s.queue = []) (hclose : s.stagedClose = false)
    (hbank : s.bank = none) : s.statementBound := by
  have hq := State.queued_eq_zero_of_nil hqueue
  refine ⟨fun a => ?_, fun hc => ?_, fun b a hb => ?_, fun a ha => ?_, fun b a hb => ?_⟩
  · rw [hq, hq]
    exact ⟨Nat.zero_le 1, Nat.zero_le 1⟩
  · rw [hclose] at hc
    cases hc
  · rw [hbank] at hb
    cases hb
  · rw [hq] at ha
    exact absurd ha (Nat.lt_irrefl 0)
  · rw [hbank] at hb
    cases hb

theorem State.tenanciesProper_initialise {s : State} (h : s.tenanciesProper) : s.initialise.tenanciesProper := by
  obtain ⟨hall, hzero, htag, -⟩ := h
  have h0 : s.initialise.account 0 = (s.account 0).initialised 0 := State.initialise_account s 0
  refine ⟨fun a => ?_, ?_, ?_, fun a ha => ?_⟩
  · rw [State.initialise_account]
    by_cases ha : a = 0
    · subst ha
      have := hall 0
      simp only [Account.proper, hzero] at this
      simp only [Account.initialised, if_true, Account.proper, hzero]
      exact ⟨trivial, this.2⟩
    · simp only [Account.initialised, if_neg ha, Account.proper]
      exact ⟨trivial, trivial⟩
  · rw [h0]
    exact hzero
  · rw [h0]
    exact htag
  · rw [State.initialise_account] at ha
    by_cases h0 : a = 0
    · subst h0
      exact absurd (hzero.symm.trans ha) (fun h => nomatch h)
    · simp only [Account.initialised, if_neg h0] at ha
      cases ha

/-! ## The removal of a statement -/

theorem State.vacate_self (s : State) (a : AccountNo) : (s.vacate a).account a = (s.account a).vacated := by
  unfold State.vacate
  simp only
  split
  · next u hu =>
    have hne : u ≠ a := by
      rintro rfl
      have := ((upperOf_eq_some u u).1 hu).2
      omega
    split
    · rw [State.account_setAccount, if_neg hne, State.setAccount_account_self]
      rfl
    · rw [State.setAccount_account_self]
      rfl
  · rw [State.setAccount_account_self]
    rfl

theorem State.vacate_ne (s : State) {a b : AccountNo} (h : a ≠ b) :
    ∃ work, (s.vacate a).account b = { s.account b with work := work } := by
  have kept (r : Account) : (s.setAccount a r).account b = s.account b := by rw [State.account_setAccount, if_neg h]
  unfold State.vacate
  simp only
  split
  · next u _ =>
    split
    · rw [State.account_setAccount]
      split
      · next hu => subst hu; rw [kept]; exact ⟨_, rfl⟩
      · rw [kept]; exact ⟨_, rfl⟩
    · rw [kept]; exact ⟨_, rfl⟩
  · rw [kept]; exact ⟨_, rfl⟩

/-- The removal of a PERIOD statement writes the queue alone. -/
theorem State.tenancyLaws_takePeriod {s : State} {x : Statement} {rest : List Statement} (hqueue : s.queue = x :: rest)
    (h : s.tenancyLaws) : State.tenancyLaws { s with queue := rest } := by
  obtain ⟨hproper, hone, hstaged, hperiod, hfinal, hclosing⟩ := h
  have hle (k : StatementKind) (a : AccountNo) : State.queued { s with queue := rest } k a ≤ s.queued k a := by
    rw [State.queued_cons (t := { s with queue := rest }) hqueue]
    exact Nat.le_add_left _ _
  have hzero {k : StatementKind} {a : AccountNo} (h : s.queued k a = 0) :
      State.queued { s with queue := rest } k a = 0 := Nat.le_zero.1 (h ▸ hle k a)
  exact ⟨hproper, fun a => ⟨Nat.le_trans (hle _ a) (hone a).1, Nat.le_trans (hle _ a) (hone a).2⟩,
    fun hc => ⟨fun a => hzero ((hstaged hc).1 a), (hstaged hc).2⟩,
    fun b a hb hend hv => hzero (hperiod b a hb hend hv),
    fun a ha => hfinal a (Nat.lt_of_lt_of_le ha (hle _ a)),
    fun b a hb hrec hv => ⟨(hclosing b a hb hrec hv).1, hzero (hclosing b a hb hrec hv).2⟩⟩

/-- The removal of a FINAL statement: the account it names was FINAL, and it was the one FINAL statement of it. -/
theorem State.tenancyLaws_takeFinal {s : State} {x : Statement} {rest : List Statement} (hqueue : s.queue = x :: rest)
    (hkind : x.kind = .final) (h : s.tenancyLaws) :
    (State.vacate { s with queue := rest } x.account).tenancyLaws := by
  have hcount := State.queued_cons (t := { s with queue := rest }) hqueue
  have hten : (s.account x.account).tenancy = .final :=
    h.2.2.2.2.1 x.account (by rw [hcount, if_pos ⟨hkind, rfl⟩]; omega)
  obtain ⟨hproper, hone, hstaged, hperiod, hfinal, hclosing⟩ := State.tenancyLaws_takePeriod hqueue h
  have hnone : State.queued { s with queue := rest } .final x.account = 0 := by
    have := (h.2.1 x.account).2
    rw [hcount, if_pos ⟨hkind, rfl⟩] at this
    omega
  obtain ⟨hall, hzero, htag, hpair⟩ := hproper
  have hself := State.vacate_self { s with queue := rest } x.account
  have hother (b : AccountNo) (hb : x.account ≠ b) := State.vacate_ne { s with queue := rest } hb
  have hx0 : x.account ≠ 0 := fun h0 => by
    rw [h0] at hten
    exact absurd (hzero.symm.trans hten) (fun h => nomatch h)
  have hfields : ∃ accounts, State.vacate { s with queue := rest } x.account =
      { s with queue := rest, accounts := accounts } := by
    have := State.releaseStatement_fields { s with queue := rest } x
    rwa [State.releaseStatement_of_final hkind] at this
  obtain ⟨accounts, hfields⟩ := hfields
  have hq : ∀ k a, (State.vacate { s with queue := rest } x.account).queued k a =
      State.queued { s with queue := rest } k a := State.queued_congr (by rw [hfields])
  have hbank : (State.vacate { s with queue := rest } x.account).bank = s.bank := by rw [hfields]; rfl
  have hvisited (a : AccountNo) : (State.vacate { s with queue := rest } x.account).visited a ↔ s.visited a := by
    rw [hfields]
    rfl
  have stays (b : AccountNo) (hb : x.account ≠ b) :
      ((State.vacate { s with queue := rest } x.account).account b).tenancy = (s.account b).tenancy := by
    obtain ⟨_, hb'⟩ := hother b hb
    rw [hb']
    rfl
  refine ⟨⟨fun b => ?_, ?_, ?_, fun b hb => ?_⟩, fun a => ?_, fun hc => ?_, fun b a hb hend hv => ?_, fun a ha => ?_,
    fun b a hb hrec hv => ?_⟩
  · by_cases hb : x.account = b
    · subst hb
      rw [hself]
      have := hall x.account
      have hten' : (State.account { s with queue := rest } x.account).tenancy = .final := hten
      simp only [Account.proper, hten'] at this
      exact ⟨this.1, rfl⟩
    · obtain ⟨_, hb'⟩ := hother b hb
      rw [hb']
      exact Account.proper_congr rfl rfl rfl (hall b)
  · exact (stays 0 hx0).trans hzero
  · obtain ⟨_, h0⟩ := hother 0 hx0
    rw [h0]
    exact htag
  · by_cases hxb : x.account = b
    · subst hxb
      rw [hself] at hb
      cases hb
    · exact hpair b ((stays b hxb).symm.trans hb)
  · rw [hq, hq]
    exact hone a
  · simp only [hq, hbank]
    have hc' : s.stagedClose = true := by rw [hfields] at hc; exact hc
    exact hstaged hc'
  · rw [hq]
    exact hperiod b a (hbank ▸ hb) hend ((not_congr (hvisited a)).1 hv)
  · rw [hq] at ha
    by_cases hxa : x.account = a
    · subst hxa
      rw [hnone] at ha
      exact absurd ha (Nat.lt_irrefl 0)
    · exact (stays a hxa).trans (hfinal a ha)
  · rw [hq]
    have hb' : s.bank = some b := hbank ▸ hb
    have hv' := (not_congr (hvisited a)).1 hv
    have hxa : x.account ≠ a := by
      rintro rfl
      have := (h.2.2.2.2.2 b x.account hb' hrec hv').2
      rw [hcount, if_pos ⟨hkind, rfl⟩] at this
      omega
    obtain ⟨hfin, hcountZero⟩ := hclosing b a hb' hrec hv'
    exact ⟨(stays a hxa).trans hfin, hcountZero⟩

theorem State.tenancyLaws_takeStatement {s : State} {x : Statement} {rest : List Statement}
    (hqueue : s.queue = x :: rest) (h : s.tenancyLaws) :
    (State.releaseStatement { s with queue := rest } x).tenancyLaws := by
  cases hkind : x.kind with
  | period =>
    rw [State.releaseStatement_of_period hkind]
    exact State.tenancyLaws_takePeriod hqueue h
  | final =>
    rw [State.releaseStatement_of_final hkind]
    exact State.tenancyLaws_takeFinal hqueue hkind h

/-! ## A CLOSEOUT visit -/

theorem Bank.statementWork_final {b : Bank} {a : AccountNo} {active : Bool}
    (h : b.statementWork a active = some .final) : (b.accounts.get a).recorded = .closing := by
  unfold Bank.statementWork at h
  split at h
  · assumption
  · split at h <;> cases h
  all_goals cases h

theorem Bank.statementWork_period {b : Bank} {a : AccountNo} {active : Bool}
    (h : b.statementWork a active = some .period) : b.periodEnd = true := by
  unfold Bank.statementWork at h
  split at h
  · cases h
  · split at h
    · next hp => exact (Bool.and_eq_true_iff.1 hp).1
    · cases h
  all_goals cases h

theorem State.visitAccount_none {s : State} {b : Bank} {a : AccountNo}
    (h : b.statementWork a (s.account a).totals.active = none) : s.visitAccount b a = s := by
  simp only [State.visitAccount, h]

theorem State.visitAccount_some {s : State} {b : Bank} {a : AccountNo} {kind : StatementKind}
    (h : b.statementWork a (s.account a).totals.active = some kind) : s.visitAccount b a =
      { s.setAccount a ((s.account a).visited kind b.interval) with
        queue := s.queue ++ [(s.account a).statement a kind s.period b.interval] } := by
  simp only [State.visitAccount, h]

theorem Account.visited_fields (r : Account) (kind : StatementKind) (n : Nat) :
    ∃ totals first, r.visited kind n = { r with totals := totals, firstInterval := first } := by
  cases kind <;> exact ⟨_, _, rfl⟩

theorem State.visited_closeout {s : State} {b : Bank} {r : Results} {next : Nat} {done : Bool}
    (h : s.settle = .closeout b r next done) (a : AccountNo) : s.visited a ↔ a.val < next := by
  rw [State.visited, h]

theorem State.bank_of_settle {s : State} {x : Settle} (h : s.settle = x) : s.bank = x.bank := by
  rw [State.bank_eq, h]

/-- A visit that issues a statement: a FINAL one for an account that the law has FINAL with none queued yet, a PERIOD one
under PERIOD-END for an account with none queued. -/
theorem State.statementBound_visit {s t : State} {b : Bank} {r : Results} {a : AccountNo} {done : Bool}
    {kind : StatementKind} {x : Statement} (hsettle : s.settle = .closeout b r a.val done)
    (hwork : b.statementWork a (s.account a).totals.active = some kind) (hxk : x.kind = kind) (hxa : x.account = a)
    (hten : ∀ c, (t.account c).tenancy = (s.account c).tenancy) (hqueue : t.queue = s.queue ++ [x])
    (hclose : t.stagedClose = s.stagedClose) (hsettle' : t.settle = .closeout b r (a.val + 1) done)
    (h : s.statementBound) : t.statementBound := by
  obtain ⟨hone, hstaged, hperiod, hfinal, hclosing⟩ := h
  have hbank : s.bank = some b := State.bank_of_settle hsettle
  have hbank' : t.bank = s.bank := (State.bank_of_settle hsettle').trans hbank.symm
  have hnot : ¬ s.visited a := by rw [State.visited_closeout hsettle]; exact Nat.lt_irrefl _
  have later (c : AccountNo) (hc : ¬ t.visited c) : ¬ s.visited c ∧ a ≠ c := by
    rw [State.visited_closeout hsettle'] at hc
    rw [State.visited_closeout hsettle]
    exact ⟨by omega, fun h => hc (h ▸ Nat.lt_succ_self _)⟩
  have hcount (k : StatementKind) (c : AccountNo) : t.queued k c = s.queued k c + if kind = k ∧ a = c then 1 else 0 := by
    rw [State.queued_append hqueue, hxk, hxa]
  have kept (k : StatementKind) (c : AccountNo) (hc : ¬ (kind = k ∧ a = c)) : t.queued k c = s.queued k c := by
    rw [hcount, if_neg hc, Nat.add_zero]
  have hzero : s.queued kind a = 0 := by
    cases kind with
    | final => exact (hclosing b a hbank (Bank.statementWork_final hwork) hnot).2
    | period => exact hperiod b a hbank (Bank.statementWork_period hwork) hnot
  have hle (k : StatementKind) (c : AccountNo) (hk : s.queued k c ≤ 1) : t.queued k c ≤ 1 := by
    rw [hcount]
    split
    · next hkc =>
      obtain ⟨rfl, rfl⟩ := hkc
      exact Nat.le_of_eq (congrArg (· + 1) hzero)
    · exact hk
  refine ⟨fun c => ⟨hle _ c (hone c).1, hle _ c (hone c).2⟩, fun hc => ?_, fun b' c hb hend hv => ?_, fun c hc => ?_,
    fun b' c hb hrec hv => ?_⟩
  · rw [hclose] at hc
    obtain ⟨hnone, hend⟩ := hstaged hc
    refine ⟨fun c => ?_, fun b' hb => hend b' (hbank' ▸ hb)⟩
    rw [kept, hnone]
    rintro ⟨rfl, -⟩
    exact absurd (hend b hbank) (by rw [Bank.statementWork_period hwork]; decide)
  · obtain ⟨hv', hac⟩ := later c hv
    rw [kept _ _ fun h => hac h.2]
    exact hperiod b' c (hbank' ▸ hb) hend hv'
  · rw [hten]
    by_cases hk : kind = .final ∧ a = c
    · obtain ⟨rfl, rfl⟩ := hk
      exact (hclosing b a hbank (Bank.statementWork_final hwork) hnot).1
    · exact hfinal c (kept _ _ hk ▸ hc)
  · obtain ⟨hv', hac⟩ := later c hv
    rw [hten, kept _ _ fun h => hac h.2]
    exact hclosing b' c (hbank' ▸ hb) hrec hv'

theorem State.tenancyLaws_visit {s : State} {b : Bank} {r : Results} {a : AccountNo} {done : Bool}
    (hsettle : s.settle = .closeout b r a.val done) (h : s.tenancyLaws) :
    State.tenancyLaws { s.visitAccount b a with settle := .closeout b r (a.val + 1) done } := by
  cases hwork : b.statementWork a (s.account a).totals.active with
  | none =>
    rw [State.visitAccount_none hwork]
    refine State.tenancyLaws_congr (s := s) (fun c => ⟨_, _, _, _, _, _, _, rfl⟩) rfl rfl
      (State.bank_of_settle hsettle).symm (fun c hc => ?_) h
    rw [State.visited_closeout hsettle] at hc
    exact Nat.lt_succ_of_lt hc
  | some kind =>
    obtain ⟨totals, first, hvisited⟩ := (s.account a).visited_fields kind b.interval
    have written : (s.setAccount a ((s.account a).visited kind b.interval)).tenancyLaws :=
      State.tenancyLaws_setAccount ⟨_, _, _, _, _, _, _, hvisited⟩ h
    have hten (c : AccountNo) : ((s.setAccount a ((s.account a).visited kind b.interval)).account c).tenancy =
        (s.account c).tenancy := by
      rw [State.account_setAccount]
      split
      · next hac => rw [hvisited, hac]
      · rfl
    rw [State.visitAccount_some hwork]
    exact ⟨written.1, State.statementBound_visit hsettle hwork rfl rfl hten rfl rfl rfl h.2⟩

/-! ## The laws together -/

theorem State.tenancyLaws_reset : State.reset.tenancyLaws := by
  have hacc (a : AccountNo) : State.reset.account a = if a = 0 then Account.house else Account.initial := by
    simp only [State.reset, State.account, Table.get_set, Table.get_fill, eq_comm]
  refine ⟨⟨fun a => ?_, ?_, ?_, fun a ha => ?_⟩, State.statementBound_of_empty rfl rfl rfl⟩
  · rw [hacc]
    split <;> exact ⟨rfl, rfl⟩
  · rw [hacc]
    rfl
  · rw [hacc]
    rfl
  · rw [hacc] at ha
    split at ha <;> cases ha

theorem Kept.tenancyLaws : Kept State.tenancyLaws where
  store s t h hs := by
    cases h with
    | detach m k =>
      obtain ⟨_, _, h, hpos⟩ := s.dropAssignment_fields m
      rw [h]
      refine State.tenancyLaws_congr (s := s) (fun a => ?_) rfl rfl rfl (fun _ => id) hs
      obtain ⟨_, ha⟩ := hpos a
      exact ⟨_, _, _, _, _, _, _, ha⟩
    | assign m g =>
      obtain ⟨_, _, h, hpos⟩ := s.placeMeter_fields m (s.meter m).service g
      rw [h]
      refine State.tenancyLaws_congr (s := s) (fun a => ?_) rfl rfl rfl (fun _ => id) hs
      obtain ⟨_, ha⟩ := hpos a
      exact ⟨_, _, _, _, _, _, _, ha⟩
    | work a w => exact State.tenancyLaws_setAccount ⟨_, _, _, _, _, _, _, rfl⟩ hs
    | settings a x => exact State.tenancyLaws_setAccount ⟨_, _, _, _, _, _, _, rfl⟩ hs
    | tenancy a r h =>
      exact ⟨State.tenanciesProper_setAccount h.proper h.tenant h.joined hs.1, State.statementBound_moves h hs.2⟩
    | boundary elapsed =>
      exact ⟨State.tenanciesProper_of_boundary (s := s) (fun a => ⟨_, State.boundary_account _ a⟩) hs.1,
        State.statementBound_boundary (s := s.setClock { s.clock with elapsed := elapsed }) hs.2⟩
    | alignment elapsed =>
      refine ⟨State.tenanciesProper_of_boundary (s := s) (n := 1) (fun a => ?_) hs.1,
        State.statementBound_alignment (s := s.setClock { s.clock with elapsed := elapsed }) hs.2⟩
      rw [State.alignmentBoundary_account]
      split <;> exact ⟨_, rfl⟩
    | initialise idle =>
      exact ⟨State.tenanciesProper_initialise hs.1, State.statementBound_of_empty rfl rfl (State.bank_of_settle idle)⟩
    | stageClose queue bank =>
      obtain ⟨hproper, hone, -, hrest⟩ := hs
      refine ⟨hproper, hone, fun _ => ⟨State.queued_period_of_not_periodQueued queue, fun b hb => ?_⟩, hrest⟩
      have hb' : s.bank = some b := hb
      simpa [State.closingInFlight, hb'] using bank
    | unstageClose =>
      obtain ⟨hproper, hone, -, hrest⟩ := hs
      exact ⟨hproper, hone, fun hc => absurd hc Bool.false_ne_true, hrest⟩
    | takeStatement x rest h => exact State.tenancyLaws_takeStatement h hs
    | computeRead b rs h =>
      rw [State.computeRead_eq h]
      refine State.tenancyLaws_congr (s := s) (fun a => ⟨_, _, _, _, _, _, _, rfl⟩) rfl rfl ?_ (fun a ha => ?_) hs
      · rw [State.bank_of_settle h, State.bank_eq]
        split <;> rfl
      · rw [State.visited, h] at ha
        exact ha.elim
    | post b r a h =>
      have posted := State.tenancyLaws_setAccount (a := a) (r := (s.account a).post b a (r.accounts.get a)
        (r.estimateCredited.get a)) ⟨_, _, _, _, _, _, _, rfl⟩ hs
      refine State.tenancyLaws_congr (s := s.setAccount a ((s.account a).post b a (r.accounts.get a)
        (r.estimateCredited.get a))) (fun c => ⟨_, _, _, _, _, _, _, rfl⟩) rfl rfl ?_ (fun c hc => ?_) posted
      · refine Eq.trans ?_ (State.bank_of_settle h).symm
        rw [State.bank_eq]
        split <;> rfl
      · change s.visited c at hc
        rw [State.visited, h] at hc
        exact hc.elim
    | visit b r a done h => exact State.tenancyLaws_visit h hs
    | periodStep b r next done h =>
      rw [State.periodStep_eq h]
      refine State.tenancyLaws_congr (s := s) (fun a => ⟨_, _, _, _, _, _, _, rfl⟩) rfl rfl
        (State.bank_of_settle h).symm (fun a ha => ?_) hs
      rwa [State.visited_closeout h] at ha
    | summary b r next done h =>
      rw [State.summaryWrite_eq h]
      obtain ⟨hproper, hone, hstaged, -, hfinal, -⟩ := hs
      exact ⟨hproper, hone, fun hc => ⟨(hstaged hc).1, fun b hb => nomatch hb⟩, fun b a hb => (nomatch hb), hfinal,
        fun b a hb => (nomatch hb)⟩
    | _ => exact hs
  outside _ _ _ _ _ _ _ _ hs := hs
  resume s hs := by
    have hacc (a : AccountNo) : s.resumeSettle.account a = s.account a := by
      unfold State.resumeSettle
      split <;> rfl
    refine State.tenancyLaws_congr (s := s) (fun a => ⟨_, _, _, _, _, _, _, hacc a⟩) ?_ ?_ s.bank_resumeSettle
      (fun a ha => ?_) hs
    · unfold State.resumeSettle
      split <;> rfl
    · unfold State.resumeSettle
      split <;> rfl
    · unfold State.resumeSettle
      split
      · exact ha
      · next h => rw [State.visited, h] at ha; exact ha.elim
      · next h => rw [State.visited, h] at ha; exact ha.elim
      · exact ha
  powerOn _ _ := State.tenancyLaws_reset

/-- Settles O55: statements are issued by the visits alone, and the bank's records decide them; FINAL statements and the
tenancy states go together from the boundary to the statement's removal. -/
theorem statementBoundKept : Obligations.StatementBoundKept :=
  fun _ _ hs h => Kept.tenancyLaws.step (fun _ _ hs => hs) h hs

end Sys2Proof.Machine
end

section
/-!
PROOF. The ranges of the account store's records with the Interval Clock's (R1 to R4, R23, R44, R58, R75, R119, R136, R155).
-/

namespace Sys2Proof.Machine

/-! ## What begins a record -/

theorem Working.zero_inRange : Working.zero.inRange :=
  ⟨by decide, by decide, by decide, fun _ h => (nomatch h), by decide⟩

theorem Totals.zero_inRange : Totals.zero.inRange :=
  ⟨fun sv => (by cases sv <;> decide), fun sv b => (by cases sv <;> cases b <;> decide), by decide, by decide, by decide⟩

theorem Settings.initial_inRange : Settings.initial.inRange :=
  ⟨fun sv => (by cases sv <;> decide), by decide, by decide⟩

theorem Account.zeroWork_inRange (sv : Service) : (PerService.get ⟨Working.zero, Working.zero⟩ sv).inRange := by
  cases sv <;> exact Working.zero_inRange

theorem Account.initial_inRange : Account.initial.inRange :=
  ⟨Settings.initial_inRange, fun _ h => (nomatch h), Account.zeroWork_inRange, Totals.zero_inRange, by decide, by decide⟩

theorem MeterSlot.initial_inRange : MeterSlot.initial.inRange :=
  ⟨by decide, by decide, by decide, by decide, by decide, by decide, by decide, fun sv => (by cases sv <;> decide),
    fun _ h => (nomatch h)⟩

theorem Clock.initial_inRange : Clock.initial.inRange :=
  ⟨by decide, by decide, fun n h => (nomatch h), by decide, by decide, by decide,
    fun sv b => (by cases sv <;> cases b <;> decide), fun x h => (nomatch h), by decide, fun n h => (nomatch h)⟩

theorem Faults.initial_inRange : Faults.initial.inRange := by
  refine ⟨by decide, fun p => (by cases p <;> decide), fun i e h => ?_⟩
  simp only [Faults.initial, Table.get_set, Table.get_fill] at h
  split at h
  · cases h
    decide
  · cases h

/-! ## The clock -/

theorem nextInterval_le {n : Nat} (h : n ≤ 4294967295) : nextInterval n ≤ 4294967295 := by
  unfold nextInterval Config.max32
  split <;> omega

theorem nextPeriod_inRange {n : Nat} (h : 1 ≤ n ∧ n ≤ 65535) : 1 ≤ nextPeriod n ∧ nextPeriod n ≤ 65535 := by
  unfold nextPeriod
  split <;> omega

/-- The clock of a new interval: the staged values are in range as those in force are. -/
theorem Clock.begin_inRange {c : Clock} (h : c.inRange) {n : Nat} (hn : n ≤ 4294967295) (applied : Bool) :
    (c.begin n applied).inRange := by
  obtain ⟨hlo, hhi, hstagedLength, -, -, -, hprices, hstagedPrices, htolerance, hstagedTolerance⟩ := h
  have hlength : 5 ≤ c.stagedLength.getD c.length ∧ c.stagedLength.getD c.length ≤ 60 := by
    cases hs : c.stagedLength with
    | none => exact ⟨hlo, hhi⟩
    | some x => exact hstagedLength x hs
  have hpos : 0 < c.stagedLength.getD c.length * 60 := by omega
  refine ⟨hlength.1, hlength.2, fun _ h => (nomatch h), Nat.zero_le _, fun _ => hpos, hn, ?_, fun _ h => (nomatch h), ?_,
    fun _ h => (nomatch h)⟩
  · cases hs : c.stagedPrices with
    | none => simpa [Clock.begin, hs] using hprices
    | some x => simpa [Clock.begin, hs] using hstagedPrices x hs
  · cases hs : c.stagedTolerance with
    | none => simpa [Clock.begin, hs] using htolerance
    | some x => simpa [Clock.begin, hs] using hstagedTolerance x hs

theorem Clock.initialised_inRange {c : Clock} (h : c.inRange) : c.initialised.inRange := by
  obtain ⟨hlo, hhi, hstaged, -, -, -, hrest⟩ := h
  have hpos : 0 < c.length * 60 := by omega
  exact ⟨hlo, hhi, hstaged, Nat.zero_le _, fun _ => hpos, Nat.zero_le _, hrest⟩

/-! ## Account records -/

theorem Account.inRange_moved {r : Account} (h : r.inRange) (pos : PerService (Option SlotNo)) :
    Account.inRange { r with meterPos := pos } := h

theorem Account.atBoundary_inRange {r : Account} (h : r.inRange) {n : Nat} (hn : n ≤ 4294967295) :
    (r.atBoundary n).inRange := by
  obtain ⟨hforce, hstaged, hwork, htotals, hfirst, hthrough⟩ := h
  refine ⟨?_, ?_, ?_, ?_, ?_, ?_⟩
  · rw [Account.atBoundary_inForce]
    cases hs : r.stagedSettings with
    | none => exact hforce
    | some x => exact hstaged x hs
  · rw [Account.atBoundary_stagedSettings]
    exact fun _ h => (nomatch h)
  · rw [Account.atBoundary_work]
    exact hwork
  · rw [Account.atBoundary_totals]
    exact htotals
  · have hfirst' : r.applySettings.firstInterval ≤ 4294967295 := hfirst
    unfold Account.atBoundary Account.completeMove
    split
    · exact hn
    all_goals exact hfirst'
  · rw [Account.atBoundary_settledThrough]
    exact hthrough

theorem Account.vacated_inRange {r : Account} (h : r.inRange) : r.vacated.inRange := by
  obtain ⟨hforce, hstaged, -, htotals, -, hthrough⟩ := h
  exact ⟨hforce, hstaged, Account.zeroWork_inRange, htotals, Nat.zero_le _, hthrough⟩

theorem Account.resetWork_inRange {r : Account} (h : r.inRange) : r.resetWork.inRange := by
  obtain ⟨hforce, hstaged, -, hrest⟩ := h
  exact ⟨hforce, hstaged, Account.zeroWork_inRange, hrest⟩

theorem Account.initialised_inRange {r : Account} (h : r.inRange) (a : AccountNo) : (r.initialised a).inRange :=
  ⟨h.1, h.2.1, Account.zeroWork_inRange, Totals.zero_inRange, Nat.zero_le _, Nat.zero_le _⟩

theorem Account.visited_inRange {r : Account} (h : r.inRange) (kind : StatementKind) {n : Nat} (hn : n ≤ 4294967295) :
    (r.visited kind n).inRange := by
  obtain ⟨hforce, hstaged, hwork, -, hfirst, hthrough⟩ := h
  cases kind with
  | final => exact ⟨hforce, hstaged, hwork, Totals.zero_inRange, hfirst, hthrough⟩
  | period =>
    refine ⟨hforce, hstaged, hwork, Totals.zero_inRange, ?_, hthrough⟩
    simp only [Account.visited]
    split
    · exact nextInterval_le hn
    · exact hfirst

/-! ## What COMPUTE works out -/

/-- The ranges of the bank: its interval number and the accumulations it holds (R91, R92). -/
def Bank.inRange (b : Bank) : Prop :=
  b.interval ≤ 4294967295 ∧ ∀ m sv, (b.slots.get m).accumulation.get sv ≤ 268435455

/-- The ranges of what COMPUTE has read (R96). -/
def readingsInRange (rs : List (PerService Reading)) : Prop :=
  ∀ r ∈ rs, ∀ sv, (r.get sv).carry < 3600 ∧ (r.get sv).streak ≤ 15

/-- The ranges of one account service's results (R96). -/
def ServiceResult.inRange (x : ServiceResult) : Prop :=
  x.newCarry < 3600 ∧ x.newStreak ≤ 15 ∧ ∀ e, x.entry = some e → e ≤ 268435455

theorem Settle.bank_inRange {x : Settle} (h : x.inRange) {b : Bank} (hb : x.bank = some b) : b.inRange := by
  cases x with
  | idle => cases hb
  | compute b' rs => cases hb; exact h.1
  | post b' r a => cases hb; exact h.1
  | closeout b' r next done => cases hb; exact h

theorem readingOf_inRange {rs : List (PerService Reading)} (h : readingsInRange rs) (sv : Service) (a : AccountNo) :
    (readingOf rs sv a).carry < 3600 ∧ (readingOf rs sv a).streak ≤ 15 := by
  unfold readingOf
  rw [List.getD_eq_getElem?_getD]
  cases hr : rs[a.val]? with
  | none => cases sv <;> exact ⟨(by decide), Nat.zero_le _⟩
  | some r => exact h r (List.mem_of_getElem? hr) sv

theorem Bank.ownEnergy_le {b : Bank} (h : b.inRange) (sv : Service) (a : AccountNo) : b.ownEnergy sv a ≤ 268435455 := by
  unfold Bank.ownEnergy
  split
  · exact h.2 _ sv
  · exact Nat.zero_le _

theorem Bank.estimate_carry_lt (b : Bank) {rs : List (PerService Reading)} (h : readingsInRange rs) (sv : Service)
    (a : AccountNo) : (b.estimate rs sv a).carry < 3600 := by
  have hread := (readingOf_inRange h sv a).1
  unfold Bank.estimate
  simp only
  split
  · split
    · exact Nat.mod_lt _ (by decide)
    · exact hread
  · exact hread

theorem NoAdvance.check_streak_le (x : NoAdvance) (seconds : Option Nat) (energy : Nat) {streak : Nat} (h : streak ≤ 15) :
    (x.check seconds energy streak).1 ≤ 15 := by
  unfold NoAdvance.check
  simp only
  split
  · split
    · exact h
    · split
      · split
        · exact Nat.zero_le _
        · exact addSat_le _ _ _
      · exact Nat.zero_le _
  · exact h

theorem Bank.serviceResult_inRange {b : Bank} (hb : b.inRange) {rs : List (PerService Reading)} (h : readingsInRange rs)
    (a : AccountNo) (sv : Service) : (b.serviceResult rs a sv).inRange := by
  obtain ⟨hcarry, hstreak⟩ := readingOf_inRange h sv a
  have hestimate := b.estimate_carry_lt h sv a
  refine ⟨?_, ?_, fun e he => ?_⟩
  · simp only [Bank.serviceResult, Bank.estimateOf]
    cases b.kind sv a with
    | estimated => exact hestimate
    | metered => exact hcarry
    | redirected => exact hcarry
  · simp only [Bank.serviceResult, Bank.check]
    cases b.kind sv a with
    | metered => exact NoAdvance.check_streak_le _ _ _ hstreak
    | estimated => exact hstreak
    | redirected => exact hstreak
  · simp only [Bank.serviceResult] at he
    split at he
    · cases he
      exact Bank.ownEnergy_le hb sv a
    · cases he

theorem Account.reading_inRange {r : Account} (h : r.inRange) (sv : Service) :
    (r.reading.get sv).carry < 3600 ∧ (r.reading.get sv).streak ≤ 15 := by
  obtain ⟨hcarry, -, -, -, hstreak⟩ := h.2.2.1 sv
  cases sv <;> exact ⟨hcarry, hstreak⟩

/-! ## One post -/

/-- What a band reads after a write to a band. -/
theorem perBand_get_set {α : Type} (x : PerBand α) (i j : Band) (v : α) :
    (x.set i v).get j = if i = j then v else x.get j := by cases i <;> cases j <;> rfl

theorem Working.post_inRange {w : Working} (h : w.inRange) {x : ServiceResult} (hx : x.inRange) : (w.post x).inRange := by
  obtain ⟨hcarry, hstreak, hentry⟩ := hx
  unfold Working.post
  split
  · exact h
  · obtain ⟨-, -, hlength, hmem, -⟩ := h
    refine ⟨hcarry, addSat_le _ _ _, List.length_take_le _ _, fun e he => ?_, hstreak⟩
    have he' := List.mem_of_mem_take he
    cases hx : x.entry with
    | none =>
      rw [hx] at he'
      exact hmem e he'
    | some y =>
      rw [hx] at he'
      rcases List.mem_cons.1 he' with rfl | he'
      · exact hentry _ hx
      · exact hmem e he'

theorem Totals.post_inRange {t : Totals} (h : t.inRange) (b : Bank) (x : PerService ServiceResult) (estimated : Bool) :
    (t.post b x estimated).inRange := by
  obtain ⟨-, hcost, -, hestimated, hinterrupted⟩ := h
  have posted (sv : Service) (cost : Nat) (band : Band) :
      (postCost (t.cost.get sv) b.band cost).get band ≤ 281474976710655 := by
    unfold postCost
    rw [perBand_get_set]
    split
    · exact addSat_le _ _ _
    · exact hcost sv band
  refine ⟨fun sv => ?_, fun sv band => ?_, addSat_le _ _ _, ?_, ?_⟩
  · cases sv <;> exact ⟨addSat_le _ _ _, addSat_le _ _ _, addSat_le _ _ _, addSat_le _ _ _⟩
  · cases sv with
    | heating => exact posted .heating _ band
    | cooling => exact posted .cooling _ band
  · simp only [Totals.post]
    split
    · exact addSat_le _ _ _
    · exact hestimated
  · simp only [Totals.post]
    split
    · exact addSat_le _ _ _
    · exact hinterrupted

theorem Account.post_inRange {r : Account} (h : r.inRange) {b : Bank} (hb : b.inRange) (a : AccountNo)
    {x : PerService ServiceResult} (hx : ∀ sv, (x.get sv).inRange) (estimated : Bool) :
    (r.post b a x estimated).inRange := by
  obtain ⟨hforce, hstaged, hwork, htotals, hfirst, -⟩ := h
  refine ⟨hforce, hstaged, fun sv => ?_, ?_, hfirst, hb.1⟩
  · cases sv with
    | heating => exact Working.post_inRange (hwork .heating) (hx .heating)
    | cooling => exact Working.post_inRange (hwork .cooling) (hx .cooling)
  · simp only [Account.post]
    split
    · exact Totals.post_inRange htotals b x estimated
    · exact htotals

/-! ## The records together -/

theorem State.accountsInRange_setAccount {s : State} {a : AccountNo} {r : Account} (h : ∀ b, (s.account b).inRange)
    (hr : r.inRange) (b : AccountNo) : ((s.setAccount a r).account b).inRange := by
  rw [State.account_setAccount]
  split
  · exact hr
  · exact h b

theorem State.accountsInRange_releaseStatement {s : State} (h : ∀ b, (s.account b).inRange) (x : Statement)
    (b : AccountNo) : ((s.releaseStatement x).account b).inRange := by
  cases hkind : x.kind with
  | period =>
    rw [State.releaseStatement_of_period hkind]
    exact h b
  | final =>
    rw [State.releaseStatement_of_final hkind]
    by_cases hb : x.account = b
    · subst hb
      rw [State.vacate_self]
      exact Account.vacated_inRange (h _)
    · unfold State.vacate
      simp only
      have vacated := State.accountsInRange_setAccount (a := x.account) h (Account.vacated_inRange (h x.account))
      split
      · split
        · exact State.accountsInRange_setAccount vacated (Account.resetWork_inRange (vacated _)) b
        · exact vacated b
      · exact vacated b

theorem State.metersInRange_setMeter {s : State} {m : SlotNo} {k : MeterSlot} (h : ∀ n, (s.meter n).inRange)
    (hk : k.inRange) (n : SlotNo) : ((s.setMeter m k).meter n).inRange := by
  rw [State.meter_setMeter]
  split
  · exact hk
  · exact h n

theorem State.fillBank_inRange {s : State} (hinterval : s.clock.interval ≤ 4294967295) (hmeters : ∀ m, (s.meter m).inRange) :
    s.metersAtBoundary.fillBank.inRange := by
  rw [Bank.inRange, State.fillBank_interval]
  refine ⟨hinterval, fun m sv => ?_⟩
  rw [State.metersAtBoundary_eq, State.fillBank, Table.get_map, Table.get_map]
  obtain ⟨-, -, -, -, -, -, -, haccumulation, -⟩ := (s.meter m).atBoundary_measured.inRange (hmeters m)
  exact haccumulation sv

/-- A raise's interval number is in range with the clock's and the bank's. -/
theorem State.records_le {s : State} (hclock : s.clock.inRange) (hsettle : s.settle.inRange) {n : Nat}
    (h : s.records n) : n ≤ 4294967295 := by
  obtain ⟨-, -, -, -, -, hinterval, -⟩ := hclock
  rcases h with rfl | ⟨b, hb, rfl⟩
  · exact hinterval
  · exact (Settle.bank_inRange hsettle (s.bank_eq.symm.trans hb)).1

/-- The ranges of the clock and of the records. -/
def State.ranged (s : State) : Prop := s.clock.inRange ∧ s.recordsInRange

theorem State.ranged_reset : State.reset.ranged := by
  refine ⟨Clock.initial_inRange, fun a => ?_, fun m => ?_, fun sv => (by cases sv <;> decide), by decide, trivial,
    by decide, by decide, Faults.initial_inRange⟩
  · simp only [State.reset, State.account, Table.get_set, Table.get_fill]
    split <;> exact Account.initial_inRange
  · simp only [State.reset, State.meter, Table.get_fill]
    exact MeterSlot.initial_inRange

theorem Kept.ranged : Kept State.ranged where
  store s t h hs := by
    obtain ⟨hclock, hacc, hmeters, hplant, hadvance, hsettle, hperiod, hring, hfaults⟩ := hs
    cases h with
    | raise c sub n h =>
      exact ⟨hclock, hacc, hmeters, hplant, hadvance, hsettle, hperiod, hring,
        Faults.raise_inRange hfaults c sub (State.records_le hclock hsettle h)⟩
    | endCondition c sub =>
      exact ⟨hclock, hacc, hmeters, hplant, hadvance, hsettle, hperiod, hring, Faults.endCondition_inRange hfaults c sub⟩
    | mask p m =>
      exact ⟨hclock, hacc, hmeters, hplant, hadvance, hsettle, hperiod, hring, Faults.setMask_inRange hfaults p m⟩
    | ack p selection clear =>
      exact ⟨hclock, hacc, hmeters, hplant, hadvance, hsettle, hperiod, hring,
        Faults.ack_inRange hfaults p selection clear⟩
    | meters ms h =>
      exact ⟨hclock, hacc, fun m => (h m).inRange (hmeters m), hplant, hadvance, hsettle, hperiod, hring, hfaults⟩
    | configure m k _ _ _ inRange =>
      exact ⟨hclock, hacc, State.metersInRange_setMeter hmeters (inRange (hmeters m)), hplant, hadvance, hsettle, hperiod,
        hring, hfaults⟩
    | detach m k _ _ _ inRange =>
      obtain ⟨accounts, pools, h, hpos⟩ := s.dropAssignment_fields m
      rw [h]
      refine ⟨hclock, fun a => ?_, State.metersInRange_setMeter hmeters (inRange (hmeters m)), hplant, hadvance, hsettle,
        hperiod, hring, hfaults⟩
      obtain ⟨pos, ha⟩ := hpos a
      have moved : (accounts.get a).inRange := ha ▸ Account.inRange_moved (hacc a) pos
      exact moved
    | assign m g =>
      obtain ⟨accounts, pools, h, hpos⟩ := s.placeMeter_fields m (s.meter m).service g
      rw [h]
      have hm := hmeters m
      refine ⟨hclock, fun a => ?_, State.metersInRange_setMeter hmeters hm, hplant, hadvance, hsettle, hperiod, hring,
        hfaults⟩
      obtain ⟨pos, ha⟩ := hpos a
      have moved : (accounts.get a).inRange := ha ▸ Account.inRange_moved (hacc a) pos
      exact moved
    | work a w h =>
      obtain ⟨hforce, hstaged, hwork, hrest⟩ := hacc a
      exact ⟨hclock, State.accountsInRange_setAccount hacc ⟨hforce, hstaged, fun sv => h sv (hwork sv), hrest⟩, hmeters,
        hplant, hadvance, hsettle, hperiod, hring, hfaults⟩
    | plant sv k h =>
      refine ⟨hclock, hacc, hmeters, fun sv' => ?_, hadvance, hsettle, hperiod, hring, hfaults⟩
      simp only [State.setPlant, PerService.get_set]
      split
      · exact h (hplant sv)
      · exact hplant sv'
    | noAdvance openMin advanceMin window =>
      refine ⟨hclock, hacc, hmeters, hplant, ?_, hsettle, hperiod, hring, hfaults⟩
      have hadvance := advanceMin.isLt
      have hopen := clamp_eq (Nat.zero_le 900) openMin.toNat
      have hwindow := clamp_eq (by decide : 1 ≤ 15) window.toNat
      simp only [noAdvanceOf]
      omega
    | clock c _ _ h => exact ⟨h hclock, hacc, hmeters, hplant, hadvance, hsettle, hperiod, hring, hfaults⟩
    | boundary elapsed =>
      have hinterval : s.clock.interval ≤ 4294967295 := State.records_le hclock hsettle (.inl rfl)
      have hbegun := Clock.begin_inRange hclock (nextInterval_le hinterval)
      have hbank := State.fillBank_inRange (s := s.setClock { s.clock with elapsed := elapsed }) hinterval hmeters
      refine ⟨by rw [State.boundary_eq]; exact hbegun _, fun a => ?_, fun m => ?_, ?_, ?_, ?_, ?_, ?_,
        ?_⟩
      · rw [State.boundary_account]
        exact Account.atBoundary_inRange (hacc a) (nextInterval_le hinterval)
      · rw [State.boundary_meter]
        exact (MeterSlot.emptied_measured _).inRange ((MeterSlot.atBoundary_measured _).inRange (hmeters m))
      · rw [State.boundary_eq]
        exact fun sv => by cases sv <;> exact Nat.zero_le _
      · rw [State.boundary_eq]
        exact hadvance
      · rw [State.boundary_settle]
        exact ⟨hbank, fun _ h => absurd h List.not_mem_nil⟩
      all_goals rw [State.boundary_eq]
      · exact hperiod
      · exact hring
      · exact Faults.foldl_raise (Q := Faults.inRange) _ _ (fun f sub hf => Faults.raise_inRange hf _ _ hinterval) _ _ hfaults
    | alignment elapsed =>
      have hbegun := Clock.begin_inRange hclock (n := 1) (by decide)
      refine ⟨by rw [State.alignmentBoundary_eq]; exact hbegun _, fun a => ?_, fun m => ?_, ?_, ?_, ?_, ?_, ?_, ?_⟩
      · rw [State.alignmentBoundary_account]
        have begun := Account.atBoundary_inRange (hacc a) (n := 1) (by decide)
        split
        · obtain ⟨hforce, hstaged, hwork, htotals, -, hthrough⟩ := begun
          exact ⟨hforce, hstaged, hwork, htotals, (by decide : 1 ≤ 4294967295), hthrough⟩
        · exact begun
      · rw [State.alignmentBoundary_meter]
        exact (MeterSlot.emptied_measured _).inRange ((MeterSlot.unseen_measured _).inRange (hmeters m))
      all_goals rw [State.alignmentBoundary_eq]
      · exact fun sv => by cases sv <;> exact Nat.zero_le _
      · exact hadvance
      · exact hsettle
      · exact hperiod
      · exact hring
      · exact hfaults
    | initialise =>
      exact ⟨Clock.initialised_inRange hclock, fun a => (State.initialise_account s a).symm ▸
        Account.initialised_inRange (hacc a) a, hmeters, hplant, hadvance, hsettle,
        ⟨Nat.le_refl 1, (by decide : 1 ≤ 65535)⟩, Nat.zero_le _, hfaults⟩
    | takeStatement x rest =>
      obtain ⟨accounts, h⟩ := State.releaseStatement_fields { s with queue := rest } x
      have hreleased := State.accountsInRange_releaseStatement (s := { s with queue := rest }) hacc x
      rw [h] at hreleased ⊢
      exact ⟨hclock, hreleased, hmeters, hplant, hadvance, hsettle, hperiod, hring, hfaults⟩
    | tenancy a r h =>
      exact ⟨hclock, State.accountsInRange_setAccount hacc (h.inRange (hacc a)), hmeters, hplant, hadvance, hsettle,
        hperiod, hring, hfaults⟩
    | settings a x _ inRange =>
      obtain ⟨hforce, -, hrest⟩ := hacc a
      exact ⟨hclock, State.accountsInRange_setAccount hacc ⟨hforce, fun _ h => Option.some.inj h ▸ inRange, hrest⟩,
        hmeters, hplant, hadvance, hsettle, hperiod, hring, hfaults⟩
    | computeRead b rs h =>
      rw [State.computeRead_eq h]
      rw [h] at hsettle
      obtain ⟨hbank, hreadings⟩ := hsettle
      have hreadings' : readingsInRange (rs ++ [(s.account (Fin.ofNat 48 rs.length)).reading]) := by
        intro r hr
        rcases List.mem_append.1 hr with hr | hr
        · exact hreadings r hr
        · rw [List.mem_singleton.1 hr]
          exact Account.reading_inRange (hacc _)
      refine ⟨hclock, hacc, hmeters, hplant, hadvance, ?_, hperiod, hring, hfaults⟩
      simp only
      split
      · exact ⟨hbank, hreadings'⟩
      · refine ⟨hbank, fun a sv => ?_⟩
        rw [Bank.results_get]
        exact Bank.serviceResult_inRange hbank hreadings' a sv
    | post b r a h =>
      rw [h] at hsettle
      obtain ⟨hbank, hresults⟩ := hsettle
      refine ⟨hclock, State.accountsInRange_setAccount hacc (Account.post_inRange (hacc a) hbank a (hresults a) _),
        hmeters, hplant, hadvance, ?_, hperiod, hring, hfaults⟩
      simp only
      split
      · exact hbank
      · exact ⟨hbank, hresults⟩
    | visit b r a done h =>
      rw [h] at hsettle
      cases hwork : b.statementWork a (s.account a).totals.active with
      | none =>
        rw [State.visitAccount_none hwork]
        exact ⟨hclock, hacc, hmeters, hplant, hadvance, hsettle, hperiod, hring, hfaults⟩
      | some kind =>
        rw [State.visitAccount_some hwork]
        exact ⟨hclock, State.accountsInRange_setAccount hacc (Account.visited_inRange (hacc a) kind hsettle.1), hmeters,
          hplant, hadvance, hsettle, hperiod, hring, hfaults⟩
    | periodStep b r next done h =>
      rw [State.periodStep_eq h]
      rw [h] at hsettle
      refine ⟨hclock, hacc, hmeters, hplant, hadvance, hsettle, ?_, hring, hfaults⟩
      simp only
      split
      · exact nextPeriod_inRange hperiod
      · exact hperiod
    | summary b r next done h =>
      rw [State.summaryWrite_eq h]
      exact ⟨hclock, hacc, hmeters, hplant, hadvance, trivial, hperiod, List.length_take_le _ _, hfaults⟩
    | _ => exact ⟨hclock, hacc, hmeters, hplant, hadvance, hsettle, hperiod, hring, hfaults⟩
  outside _ _ _ _ _ _ _ _ hs := hs
  resume s hs := by
    obtain ⟨hclock, hacc, hmeters, hplant, hadvance, hsettle, hperiod, hring, hfaults⟩ := hs
    unfold State.resumeSettle
    split
    · exact ⟨hclock, hacc, hmeters, hplant, hadvance, hsettle, hperiod, hring, hfaults⟩
    · next h =>
      rw [h] at hsettle
      exact ⟨hclock, hacc, hmeters, hplant, hadvance, ⟨hsettle.1, fun _ h => (nomatch h)⟩, hperiod, hring, hfaults⟩
    · next h =>
      rw [h] at hsettle
      exact ⟨hclock, hacc, hmeters, hplant, hadvance, hsettle, hperiod, hring, hfaults⟩
    · exact ⟨hclock, hacc, hmeters, hplant, hadvance, hsettle, hperiod, hring, hfaults⟩
  powerOn _ _ := State.ranged_reset

/-- Settles O57: every write of a record is clamped, saturated, or copies a value in range. -/
theorem recordRangesKept : Obligations.RecordRangesKept :=
  fun _ _ hs h => Kept.ranged.step (fun _ _ hs => hs) h hs

end Sys2Proof.Machine
end

section
/-!
PROOF. The step, and how a request meets its port: O1 to O6. What operand bytes name, what a granted request leaves, and the
answers that the order of the tests gives (R140, R144, R148, R175 to R177).
-/

namespace Sys2Proof.Machine

/-! ## The step -/

/-- Settles O1: the two branches of the step. -/
theorem stepTakesFrontCommand : Obligations.StepTakesFrontCommand := by
  intro s
  refine ⟨fun c rest h => ?_, fun h => ?_⟩
  · simp only [step, h]
  · simp only [step, h]

/-- No part of a command writes the queue of commands that wait. -/
theorem Kept.pending (q : List Instr) : Kept fun s => s.pending = q where
  store s t h hs := by
    cases h with
    | detach m k =>
      obtain ⟨_, _, h, -⟩ := s.dropAssignment_fields m
      rw [h]
      exact hs
    | assign m g =>
      obtain ⟨_, _, h, -⟩ := s.placeMeter_fields m (s.meter m).service g
      rw [h]
      exact hs
    | boundary elapsed => rw [State.boundary_eq]; exact hs
    | alignment elapsed => rw [State.alignmentBoundary_eq]; exact hs
    | takeStatement x rest =>
      obtain ⟨_, h⟩ := State.releaseStatement_fields { s with queue := rest } x
      rw [h]
      exact hs
    | computeRead b rs h => rw [State.computeRead_eq h]; exact hs
    | visit b r a done h =>
      obtain ⟨_, _, hv⟩ := s.visitAccount_fields b a
      rw [hv]
      exact hs
    | periodStep b r next done h => rw [State.periodStep_eq h]; exact hs
    | summary b r next done h => rw [State.summaryWrite_eq h]; exact hs
    | _ => exact hs
  outside _ _ _ _ _ _ _ _ hs := hs
  resume s hs := by
    unfold State.resumeSettle
    split <;> exact hs
  powerOn _ hs := hs

/-- Settles O2: every part of a command leaves the queue, so every command does. -/
theorem commandsLeaveTheQueue : Obligations.CommandsLeaveTheQueue :=
  fun _ s _ h => (Kept.pending s.pending).exec h rfl

/-! ## A request turned away (R175) -/

section Serve

variable {s : State} {p : Port} {frame : List Byte} {work : State → Answer}

theorem State.serve_of_shut (h : s.intake p frame = .shut) : s.serve p frame work = s := by
  simp only [State.serve, h]

theorem State.serve_of_rejected (h : s.intake p frame = .rejected) : s.serve p frame work = s.rejectRequest p := by
  simp only [State.serve, h]

theorem State.serve_of_held_waiting (h : s.intake p frame = .held) (hown : ownerAllows p frame = true)
    (hgrant : s.nextGrant ≠ some (.port p)) : s.serve p frame work = s := by
  simp only [State.serve, h, hown, Bool.not_true, Bool.false_eq_true, if_false, if_neg hgrant]

theorem State.serve_of_taken_waiting (h : s.intake p frame = .taken) (hown : ownerAllows p frame = true)
    (hgrant : (s.arrived p frame).nextGrant ≠ some (.port p)) : s.serve p frame work = s.takeRequest p frame := by
  simp only [State.serve, h, hown, Bool.not_true, Bool.false_eq_true, if_false, if_neg hgrant]
  simp only [State.arrived, h]

end Serve

/-- Settles O3: each clause is a branch of the port's service that carries nothing out. -/
theorem requestsTurnedAway : Obligations.RequestsTurnedAway := by
  intro c p s hport hbytes
  simp only [exec_request hport hbytes, Host.Outcome.next.injEq]
  exact ⟨State.serve_of_shut, State.serve_of_rejected, State.serve_of_held_waiting, State.serve_of_taken_waiting⟩

/-! ## The ownership test (R139, R140) -/

/-- A frame begins with the code of its request, and the code tells whose request it is. -/
theorem codeOwner_requestBytes {c : Instr} (h : c.requestBytes ≠ []) :
    ∃ code body, c.requestBytes = code :: body ∧ codeOwner code = c.owner := by
  cases c with
  | transactionStart | transactionEnd | portFrameRaise | status | fetch | streamRecordPrepare | meterLineCharacter
  | gapExpiry | drainCaptureEntry | applyHeldDeltas | tickEdge | timerExpiry | deferredBoundary | tickLossTimeout
  | computeRead | accountPost | closeoutVisit | periodStep | summaryWrite | vmainFall | vmainRise | holdExit
  | powerOnReset | backupLowChange | warmResetAssert | warmResetRelease | vmainFallBelowRunThreshold => exact absurd rfl h
  | _ => exact ⟨_, _, rfl, rfl⟩

theorem ownerAllows_requestBytes {c : Instr} (h : c.requestBytes ≠ []) (p : Port) :
    ownerAllows p c.requestBytes = false ↔ c.owner = some p.other := by
  obtain ⟨code, body, hframe, howner⟩ := codeOwner_requestBytes h
  simp only [hframe, ownerAllows, howner]
  cases c.owner with
  | none => simp
  | some q => cases q <;> cases p <;> decide

/-- Settles O4: the ownership test reads the request's code, and its refusal is answered within the port. -/
theorem notOwnerRefusal : Obligations.NotOwnerRefusal := by
  intro c p s hport hbytes
  refine ⟨ownerAllows_requestBytes hbytes p, fun howner hi => ?_⟩
  rw [exec_request hport hbytes, State.serve_of_notOwner ((ownerAllows_requestBytes hbytes p).2 howner) hi]

/-! ## What operand bytes name (R192) -/

theorem accountOf_eq_none {b : Byte} : accountOf b = none ↔ 47 < b.toNat := by
  rw [accountOf, dite_eq_right_iff]
  simp only [reduceCtorEq, imp_false]
  omega

theorem slotOf_eq_none {b : Byte} : slotOf b = none ↔ 63 < b.toNat := by
  rw [slotOf, dite_eq_right_iff]
  simp only [reduceCtorEq, imp_false]
  omega

theorem lineOf_eq_none {b : Byte} : lineOf b = none ↔ 15 < b.toNat := by
  rw [lineOf, dite_eq_right_iff]
  simp only [reduceCtorEq, imp_false]
  omega

theorem positionOf_eq_none {b : Byte} : positionOf b = none ↔ 31 < b.toNat := by
  rw [positionOf, dite_eq_right_iff]
  simp only [reduceCtorEq, imp_false]
  omega

/-- A decoder's chain of codes names nothing when the byte is none of them. -/
theorem ite_some_eq_none {α : Type} {c : Prop} [Decidable c] {x : α} {o : Option α} :
    (if c then some x else o) = none ↔ ¬ c ∧ o = none := by
  by_cases h : c
  · rw [if_pos h]
    exact ⟨fun h' => (nomatch h'), fun h' => absurd h h'.1⟩
  · rw [if_neg h]
    exact ⟨fun h' => ⟨h, h'⟩, And.right⟩

theorem serviceOf_eq_none {b : Byte} : serviceOf b = none ↔ 1 < b.toNat := by
  unfold serviceOf
  simp only [ite_some_eq_none, and_true]
  bv_omega

theorem meterServiceOf_eq_none {b : Byte} : meterServiceOf b = none ↔ 2 < b.toNat := by
  unfold meterServiceOf
  simp only [ite_some_eq_none, and_true]
  bv_omega

theorem scaleOf_eq_none {b : Byte} : scaleOf b = none ↔ 3 < b.toNat := by
  unfold scaleOf
  simp only [ite_some_eq_none, and_true]
  bv_omega

theorem basisOf_eq_none {b : Byte} : basisOf b = none ↔ 1 < b.toNat := by
  unfold basisOf
  simp only [ite_some_eq_none, and_true]
  bv_omega

theorem bandOf_eq_none {b : Byte} : bandOf b = none ↔ 3 < b.toNat := by
  unfold bandOf
  simp only [ite_some_eq_none, and_true]
  bv_omega

theorem rateOf_eq_none {b : Byte} : rateOf b = none ↔ 2 < b.toNat := by
  unfold rateOf
  simp only [ite_some_eq_none, and_true]
  bv_omega

theorem poolOf_eq_none {b : Byte} : poolOf b = none ↔ 1 < b.toNat := by
  unfold poolOf
  simp only [ite_some_eq_none, and_true]
  bv_omega

theorem lineField_eq_none {b : Byte} : lineField b = none ↔ 15 < b.toNat ∧ b.toNat ≠ 255 := by
  unfold lineField
  rw [ite_some_eq_none, Option.map_eq_none_iff, lineOf_eq_none]
  bv_omega

theorem toNat_ofNat_byte {n : Nat} (h : n < 256) : (BitVec.ofNat 8 n).toNat = n := by
  rw [BitVec.toNat_ofNat]
  exact Nat.mod_eq_of_lt h

@[simp] theorem slotOf_ofNat (m : SlotNo) : slotOf (BitVec.ofNat 8 m.val) = some m := by
  have hval := toNat_ofNat_byte (n := m.val) (by omega)
  simp [slotOf, hval]

@[simp] theorem lineOf_ofNat (l : LineNo) : lineOf (BitVec.ofNat 8 l.val) = some l := by
  have hval := toNat_ofNat_byte (n := l.val) (by omega)
  simp [lineOf, hval]

@[simp] theorem positionOf_ofNat (i : Position) : positionOf (BitVec.ofNat 8 i.val) = some i := by
  have hval := toNat_ofNat_byte (n := i.val) (by omega)
  simp [positionOf, hval]

@[simp] theorem serviceOf_code (sv : Service) : serviceOf (serviceCode sv) = some sv := by cases sv <;> rfl
@[simp] theorem meterServiceOf_code (v : MeterService) : meterServiceOf v.code = some v := by cases v <;> rfl
@[simp] theorem scaleOf_code (x : Scale) : scaleOf x.code = some x := by cases x <;> rfl
@[simp] theorem bandOf_code (x : Band) : bandOf x.code = some x := by cases x <;> rfl
@[simp] theorem rateOf_code (x : LineRate) : rateOf x.code = some x := by cases x <;> rfl

theorem accountOf_eq_some {b : Byte} (h : b.toNat < 48) : accountOf b = some ⟨b.toNat, h⟩ := dif_pos h

/-- An odd number below 47 names the pair with the account after it (R17). -/
theorem pairOf_of_odd {b : Byte} (hodd : b.toNat % 2 = 1) (h : b.toNat < 47) :
    pairOf b = some (⟨b.toNat, by omega⟩, ⟨b.toNat + 1, by omega⟩) := by
  rw [pairOf, accountOf_eq_some (by omega), Option.bind_some, upperOf, dif_pos ⟨hodd, h⟩]
  rfl

theorem pairOf_eq_none {b : Byte} (h : b.toNat % 2 = 0 ∨ 47 ≤ b.toNat) : pairOf b = none := by
  by_cases hb : b.toNat < 48
  · rw [pairOf, accountOf_eq_some hb, Option.bind_some, upperOf, dif_neg (by simp only; omega)]
    rfl
  · rw [pairOf, accountOf_eq_none.2 (by omega)]
    rfl

/-! ## A request granted now -/

/-- What the work of a request granted at port `p` finds: the store as it was, the port's PORT-FRAME raise made. -/
def State.found (s : State) (p : Port) (ports : PerPort PortState) (arbiter : Arbiter) : State :=
  { s with faults := s.faultsAt p, ports := ports, arbiter := arbiter }

/-- A frame that is granted is not empty: the ownership test reads its code. -/
theorem State.frame_ne_nil {s : State} {p : Port} {frame : List Byte} (h : s.grantsRequest p frame = true) :
    frame ≠ [] := by
  rintro rfl
  obtain ⟨-, hown, -⟩ := State.grantsRequest_iff.1 h
  cases hown

/-- A granted request leaves what its work writes, with the port answered and the arbiter after the grant. -/
theorem exec_of_work {c : Instr} {p : Port} {s : State} (u : State) {r : Result} {data : List Byte}
    (hport : c.port = some p) (h : s.grants c) (hsupply : u.supervisor = s.supervisor)
    (hwork : ∀ ports arbiter, requestWork c (s.found p ports arbiter) =
      ⟨{ u with ports := ports, arbiter := arbiter }, r, data⟩) :
    exec c s = .next { u with ports := s.ports.set p (s.answered p r data), arbiter := s.arbiterAfter p } := by
  have hgrant : s.grantsRequest p c.requestBytes = true := by simpa only [State.grants, hport] using h
  rw [exec_request hport (State.frame_ne_nil hgrant), State.serve_eq hgrant]
  intro ports arbiter a ha
  obtain rfl : _ = a := (hwork ports arbiter).symm.trans ha
  exact ⟨rfl, rfl, hsupply, rfl⟩

/-- A granted request whose work writes nothing leaves its reply alone. -/
theorem exec_of_unchanged {c : Instr} {p : Port} {s : State} {r : Result} {data : List Byte} (hport : c.port = some p)
    (h : s.grants c) (hwork : ∀ ports arbiter, requestWork c (s.found p ports arbiter) =
      ⟨s.found p ports arbiter, r, data⟩) : exec c s = .next (s.afterRequest p r data) :=
  exec_of_work { s with faults := s.faultsAt p } hport h rfl hwork

/-! ## Operands out of range (R177) -/

theorem targetOf_of_badIndex {kind number : Byte} (hkind : kind.toNat = 1) (hn : 47 < number.toNat) :
    targetOf kind number = .error .badIndex := by
  have hk : kind = 1#8 := BitVec.eq_of_toNat_eq hkind
  simp only [targetOf, hk, if_true, accountOf_eq_none.2 hn]

theorem targetOf_of_badPool {kind number : Byte} (hkind : kind.toNat = 2) (hn : 1 < number.toNat) :
    targetOf kind number = .error .badValue := by
  obtain rfl : kind = 2#8 := BitVec.eq_of_toNat_eq hkind
  simp [targetOf, poolOf_eq_none.2 hn]

theorem targetOf_of_badKind {kind number : Byte} (h1 : kind.toNat ≠ 1) (h2 : kind.toNat ≠ 2) :
    targetOf kind number = .error .badValue := by
  have hk1 : kind ≠ 1#8 := fun h => h1 (h ▸ rfl)
  have hk2 : kind ≠ 2#8 := fun h => h2 (h ▸ rfl)
  simp [targetOf, hk1, hk2]

theorem configureMeterWork_of_badOperand {p : Port} {slot address service scale late : Byte} {spike : Word} {r : Result}
    (h : (Instr.configureMeter p slot address service scale spike late).badOperand = some r) (s : State) :
    configureMeterWork slot address service scale spike late s = .refuse s r := by
  simp only [Instr.badOperand] at h
  unfold configureMeterWork
  split at h
  · next hslot =>
    cases h
    rw [slotOf_eq_none.2 hslot]
  · next hslot =>
    split at h
    · next hcode =>
      cases h
      cases hm : slotOf slot with
      | none => exact absurd (slotOf_eq_none.1 hm) hslot
      | some m =>
        rcases hcode with hv | hx
        · rw [meterServiceOf_eq_none.2 hv]
        · rw [scaleOf_eq_none.2 hx]
          cases meterServiceOf service <;> rfl
    · cases h

theorem setAccountWork_of_badOperand {p : Port} {account : Byte} {b : SettingsBlock} {r : Result}
    (h : (Instr.setAccount p account b).badOperand = some r) (s : State) : setAccountWork account b s = .refuse s r := by
  simp only [Instr.badOperand] at h
  unfold setAccountWork
  split at h
  · next hacc =>
    cases h
    rw [accountOf_eq_none.2 hacc]
  · next hacc =>
    cases ha : accountOf account with
    | none => exact absurd (accountOf_eq_none.1 ha) hacc
    | some a =>
      split at h
      · next hbasis =>
        cases h
        rcases hbasis with hb | hb
        · rw [basisOf_eq_none.2 hb]
        · rw [basisOf_eq_none.2 hb]
          cases basisOf b.basis.heating <;> rfl
      · next hbasis =>
        split at h
        · next hline =>
          cases h
          cases hh : basisOf b.basis.heating with
          | none => exact absurd (.inl (basisOf_eq_none.1 hh)) hbasis
          | some x =>
            cases hc : basisOf b.basis.cooling with
            | none => exact absurd (.inr (basisOf_eq_none.1 hc)) hbasis
            | some y =>
              rcases hline with hl | hl
              · rw [lineField_eq_none.2 hl]
              · rw [lineField_eq_none.2 hl]
                cases lineField b.line.heating <;> rfl
        · cases h

theorem assignMeterWork_of_badOperand {p : Port} {slot kind number : Byte} {r : Result}
    (h : (Instr.assignMeter p slot kind number).badOperand = some r) (s : State) :
    assignMeterWork slot kind number s = .refuse s r := by
  simp only [Instr.badOperand] at h
  unfold assignMeterWork
  split at h
  · next hslot =>
    cases h
    rw [slotOf_eq_none.2 hslot]
  · next hslot =>
    have htarget : targetOf kind number = .error r := by
      split at h
      · next hkind =>
        split at h <;> cases h
        exact targetOf_of_badIndex hkind ‹_›
      · next hone =>
        split at h
        · next hkind =>
          split at h <;> cases h
          exact targetOf_of_badPool hkind ‹_›
        · next htwo =>
          cases h
          exact targetOf_of_badKind hone htwo
    cases hm : slotOf slot with
    | none => exact absurd (slotOf_eq_none.1 hm) hslot
    | some m => rw [htarget]

/-- The work of a request with an operand that names nothing refuses it, whatever the state. -/
theorem requestWork_of_badOperand {c : Instr} {r : Result} (h : c.badOperand = some r) (s : State) :
    requestWork c s = .refuse s r := by
  cases c with
  | configureMeter => exact configureMeterWork_of_badOperand h s
  | setAccount => exact setAccountWork_of_badOperand h s
  | assignMeter => exact assignMeterWork_of_badOperand h s
  | configurePlant p service scale =>
    simp only [Instr.badOperand, Option.ite_none_right_eq_some, Option.some.injEq] at h
    obtain ⟨hservice | hscale, rfl⟩ := h
    · simp only [requestWork, configurePlantWork, serviceOf_eq_none.2 hservice]
    · simp only [requestWork, configurePlantWork, scaleOf_eq_none.2 hscale]
      cases serviceOf service <;> rfl
  | retireMeter | reReferenceMeter | unassignMeter | readMeter =>
    simp only [Instr.badOperand, Option.ite_none_right_eq_some, Option.some.injEq] at h
    obtain ⟨hslot, rfl⟩ := h
    simp only [requestWork, retireMeterWork, reReferenceMeterWork, unassignMeterWork, readMeterWork, slotOf_eq_none.2 hslot]
  | postPlantReading | reReferencePlant | readPlant =>
    simp only [Instr.badOperand, Option.ite_none_right_eq_some, Option.some.injEq] at h
    obtain ⟨hservice, rfl⟩ := h
    simp only [requestWork, postPlantReadingWork, reReferencePlantWork, readPlantWork, serviceOf_eq_none.2 hservice]
  | moveIn | moveOut | cancelMove | readAccount | streamAccounts =>
    simp only [Instr.badOperand, Option.ite_none_right_eq_some, Option.some.injEq] at h
    obtain ⟨hacc, rfl⟩ := h
    simp only [requestWork, moveInWork, moveOutWork, cancelMoveWork, readAccountWork, streamAccountsWork,
      accountOf_eq_none.2 hacc]
  | joinPair | splitPair =>
    simp only [Instr.badOperand, Option.ite_none_right_eq_some, Option.some.injEq] at h
    obtain ⟨hpair, rfl⟩ := h
    simp only [requestWork, joinPairWork, splitPairWork, pairOf_eq_none hpair]
  | setRuntimeLine =>
    simp only [Instr.badOperand, Option.ite_none_right_eq_some, Option.some.injEq] at h
    obtain ⟨hline, rfl⟩ := h
    simp only [requestWork, setRuntimeLineWork, lineOf_eq_none.2 hline]
  | setBand =>
    simp only [Instr.badOperand, Option.ite_none_right_eq_some, Option.some.injEq] at h
    obtain ⟨hband, rfl⟩ := h
    simp only [requestWork, setBandWork, bandOf_eq_none.2 hband]
  | setLineRate =>
    simp only [Instr.badOperand, Option.ite_none_right_eq_some, Option.some.injEq] at h
    obtain ⟨hrate, rfl⟩ := h
    simp only [requestWork, setLineRateWork, rateOf_eq_none.2 hrate]
  | readIntervalSummary =>
    simp only [Instr.badOperand, Option.ite_none_right_eq_some, Option.some.injEq] at h
    obtain ⟨hage, rfl⟩ := h
    simp only [requestWork, readIntervalSummaryWork, if_pos hage]
  | readFaultEntry =>
    simp only [Instr.badOperand, Option.ite_none_right_eq_some, Option.some.injEq] at h
    obtain ⟨hposition, rfl⟩ := h
    simp only [requestWork, readFaultEntryWork, positionOf_eq_none.2 hposition]
  | _ => cases h

/-- Settles O5: the operands are tested before anything is written. -/
theorem badOperandRefusals : Obligations.BadOperandRefusals :=
  fun _ _ _ _ hport hbad h => exec_of_unchanged hport h fun _ _ => requestWork_of_badOperand hbad _

/-! ## A settle in flight (R148) -/

/-- Settles O6: each of the five works tests the settle before the states. -/
theorem busyRefusals : Obligations.BusyRefusals := by
  intro s hbusy
  have found (p : Port) (ports : PerPort PortState) (arbiter : Arbiter) :
      (s.found p ports arbiter).settleInFlight = true := hbusy
  refine ⟨fun hrun h => ?_, fun slot hslot h => ?_, fun lower hodd hlow h => ?_, fun lower hodd hlow h => ?_, fun h => ?_⟩ <;>
    refine exec_of_unchanged rfl h fun ports arbiter => ?_
  · have hrun' : (s.found .plant ports arbiter).clock.store = .running := hrun
    simp only [requestWork, markWork, hrun', found, if_true]
    rfl
  · cases hm : slotOf slot with
    | none => exact absurd (slotOf_eq_none.1 hm) (by omega)
    | some m =>
      simp only [requestWork, reReferenceMeterWork, hm, found, if_true]
      rfl
  · simp only [requestWork, joinPairWork, pairOf_of_odd hodd hlow, found, if_true]
    rfl
  · simp only [requestWork, splitPairWork, pairOf_of_odd hodd hlow, found, if_true]
    rfl
  · simp only [requestWork, initialiseAccountsWork, found, if_true]
    rfl

end Sys2Proof.Machine
end

section
/-!
PROOF. The Plant Port's requests, case by case: staged and immediate settings (O15, O16), meter slots (O17 to O19) and plant
slots (O20).
-/

namespace Sys2Proof.Machine

/-! ## What a request's work finds of the store -/

section Found

variable (s : State) (p : Port) (ports : PerPort PortState) (arbiter : Arbiter)

@[simp] theorem State.found_meter (m : SlotNo) : (s.found p ports arbiter).meter m = s.meter m := rfl
@[simp] theorem State.found_account (a : AccountNo) : (s.found p ports arbiter).account a = s.account a := rfl
@[simp] theorem State.found_clock : (s.found p ports arbiter).clock = s.clock := rfl
@[simp] theorem State.found_plant : (s.found p ports arbiter).plant = s.plant := rfl
@[simp] theorem State.found_pools : (s.found p ports arbiter).pools = s.pools := rfl
@[simp] theorem State.found_lines : (s.found p ports arbiter).lines = s.lines := rfl
@[simp] theorem State.found_stagedClose : (s.found p ports arbiter).stagedClose = s.stagedClose := rfl
@[simp] theorem State.found_queue : (s.found p ports arbiter).queue = s.queue := rfl
@[simp] theorem State.found_ring : (s.found p ports arbiter).ring = s.ring := rfl
@[simp] theorem State.found_faults : (s.found p ports arbiter).faults = s.faultsAt p := rfl
@[simp] theorem State.found_settleInFlight : (s.found p ports arbiter).settleInFlight = s.settleInFlight := rfl
@[simp] theorem State.found_addressTaken (m : SlotNo) (n : Nat) :
    (s.found p ports arbiter).addressTaken m n = s.addressTaken m n := rfl
@[simp] theorem State.found_targetFree (k : MeterSlot) (g : Target) :
    (s.found p ports arbiter).targetFree k g = s.targetFree k g := by cases g <;> rfl

end Found

/-! ## Settings (R25, R38, R63, R75, R80, R82, R85) -/

theorem clamp_zero (hi n : Nat) : clamp 0 hi n = min hi n := by
  rw [clamp_eq (Nat.zero_le hi), Nat.zero_max]

/-- Settles O15: each work stages its value and answers it. -/
theorem stagingRequests : Obligations.StagingRequests := by
  intro s
  refine ⟨fun x h => ?band, fun m h => ?length, fun x h => ?tolerance, fun h0 h1 h2 h3 c0 c1 c2 c3 h => ?prices⟩
  case band =>
    refine exec_of_work { s with faults := s.faultsAt .plant, clock := { s.clock with stagedBand := some x } } rfl h rfl
      fun ports arbiter => ?_
    simp only [requestWork, setBandWork, bandOf_code]
    rfl
  case length =>
    refine exec_of_work { s with
      faults := s.faultsAt .plant, clock := { s.clock with stagedLength := some (max 5 (min 60 m.toNat)) } } rfl h rfl
      fun ports arbiter => ?_
    simp only [requestWork, setIntervalLengthWork, clamp_eq (by decide : 5 ≤ 60)]
    rfl
  case tolerance =>
    refine exec_of_work { s with
      faults := s.faultsAt .plant, clock := { s.clock with stagedTolerance := some (min 255 x.toNat) } } rfl h rfl
      fun ports arbiter => ?_
    simp only [requestWork, setToleranceWork, clamp_zero]
    rfl
  case prices =>
    exact exec_of_work { s with
      faults := s.faultsAt .billing
      clock := { s.clock with
        stagedPrices := some ⟨⟨h0.toNat, h1.toNat, h2.toNat, h3.toNat⟩, ⟨c0.toNat, c1.toNat, c2.toNat, c3.toNat⟩⟩ } }
      rfl h rfl fun _ _ => rfl

/-- Settles O16: each work writes its settings at once. -/
theorem immediatePlantSettings : Obligations.ImmediatePlantSettings := by
  intro s
  refine ⟨fun l enable polarity h => ?line, fun o a w h => ?advance, fun x h => ?rate⟩
  case line =>
    refine exec_of_work { s with
      faults := s.faultsAt .plant
      lines := s.lines.set l { s.lines.get l with
        enabled := decide (enable.toNat ≠ 0), activeLow := decide (polarity.toNat ≠ 0) } } rfl h rfl
      fun ports arbiter => ?_
    simp only [requestWork, setRuntimeLineWork, lineOf_ofNat, flagOf_eq_toNat]
    rfl
  case advance =>
    refine exec_of_work { s with
      faults := s.faultsAt .plant
      noAdvance := { openMin := min 900 o.toNat, advanceMin := a.toNat, window := max 1 (min 15 w.toNat) } } rfl h rfl
      fun ports arbiter => ?_
    simp only [requestWork, setNoAdvanceWork, noAdvanceOf, clamp_zero, clamp_eq (by decide : 1 ≤ 15)]
    rfl
  case rate =>
    refine exec_of_work { s with faults := s.faultsAt .plant, lineRate := x, receiver := .idle } rfl h rfl
      fun ports arbiter => ?_
    simp only [requestWork, setLineRateWork, rateOf_code]
    rfl

/-! ## CONFIGURE METER (R52) -/

section Configure

variable {s : State} {m : SlotNo} {address late : Byte} {spike : Word} {v : MeterService} {x : Scale}

theorem configureMeterWork_of_taken (h : s.addressTaken m (clamp 1 250 address.toNat) = true) :
    configureMeterWork (BitVec.ofNat 8 m.val) address v.code x.code spike late s = .refuse s .duplicate := by
  simp only [configureMeterWork, slotOf_ofNat, meterServiceOf_code, scaleOf_code, h, if_true]

theorem configureMeterWork_of_assigned (h : s.addressTaken m (clamp 1 250 address.toNat) = false)
    (hassigned : (s.meter m).target ≠ .unassigned ∧ (v ≠ (s.meter m).service ∨ x ≠ (s.meter m).scale)) :
    configureMeterWork (BitVec.ofNat 8 m.val) address v.code x.code spike late s = .refuse s .wrongState := by
  simp only [configureMeterWork, slotOf_ofNat, meterServiceOf_code, scaleOf_code, h, Bool.false_eq_true, if_false,
    if_pos hassigned]

theorem configureMeterWork_of_accepted (h : s.addressTaken m (clamp 1 250 address.toNat) = false)
    (hloose : ¬ ((s.meter m).target ≠ .unassigned ∧ (v ≠ (s.meter m).service ∨ x ≠ (s.meter m).scale))) :
    configureMeterWork (BitVec.ofNat 8 m.val) address v.code x.code spike late s =
      .ok { s with
          meters := s.meters.set m ((s.meter m).configured (clamp 1 250 address.toNat) v x
            (clamp 0 Config.energyCap spike.toNat) (clamp 1 15 late.toNat))
          faults := if (s.meter m).state = .late ∧ v ≠ (s.meter m).service
            then s.faults.endCondition .meterLate (.meter m) else s.faults }
        ([byteOf (clamp 1 250 address.toNat), v.code, x.code] ++ bigEndian 4 (clamp 0 Config.energyCap spike.toNat) ++
          [byteOf (clamp 1 15 late.toNat)]) := by
  simp only [configureMeterWork, slotOf_ofNat, meterServiceOf_code, scaleOf_code, h, Bool.false_eq_true, if_false,
    if_neg hloose]
  split <;> rfl

theorem MeterService.credits_heating (v : MeterService) : v.credits .heating = decide (v ≠ .cool) := by
  cases v <;> rfl

theorem MeterService.credits_cooling (v : MeterService) : v.credits .cooling = decide (v ≠ .heat) := by
  cases v <;> rfl

end Configure

/-- Settles O17: the two refusals, and the configuration written by the slot's state and service. -/
theorem configureMeter : Obligations.ConfigureMeter := by
  intro s m address late spike v x c k a sp lt u k' h
  have ha : clamp 1 250 address.toNat = a := clamp_eq (by decide) _
  have hsp : clamp 0 Config.energyCap spike.toNat = sp := clamp_zero _ _
  have hlt : clamp 1 15 late.toNat = lt := clamp_eq (by decide) _
  have free (hfree : ∀ n, n ≠ m → (s.meter n).state ≠ .off → (s.meter n).address ≠ a) :
      s.addressTaken m (clamp 1 250 address.toNat) = false := ha.symm ▸ State.addressTaken_eq_false.2 hfree
  refine ⟨fun htaken => ?duplicate, fun hfree => ⟨fun hassigned hchange => ?assigned, fun hloose => ?accepted⟩⟩
  case duplicate =>
    have ht : s.addressTaken m (clamp 1 250 address.toNat) = true := by
      refine eq_true_of_ne_false fun hf => ?_
      obtain ⟨n, hne, hstate, haddress⟩ := htaken
      exact State.addressTaken_eq_false.1 hf n hne hstate (haddress.trans ha.symm)
    exact exec_of_unchanged rfl h fun _ _ => configureMeterWork_of_taken ht
  case assigned =>
    have hf := free hfree
    exact exec_of_unchanged rfl h fun ports arbiter =>
      configureMeterWork_of_assigned (s := s.found .plant ports arbiter) hf ⟨hassigned, hchange⟩
  case accepted =>
    have hf := free hfree
    have hnot : ¬ (k.target ≠ .unassigned ∧ (v ≠ k.service ∨ x ≠ k.scale)) := by
      rintro ⟨htarget, hchange⟩
      obtain hloose | ⟨hv, hx⟩ := hloose
      · exact htarget hloose
      · exact hchange.elim (· hv) (· hx)
    have hwork (ports : PerPort PortState) (arbiter : Arbiter) := configureMeterWork_of_accepted
      (s := s.found .plant ports arbiter) (spike := spike) (late := late) hf hnot
    simp only [ha, hsp, hlt] at hwork
    have hexec := exec_of_work { s with
        meters := s.meters.set m (k.configured a v x sp lt)
        faults := if k.state = .late ∧ v ≠ k.service then (s.faultsAt .plant).endCondition .meterLate (.meter m)
          else s.faultsAt .plant } rfl h rfl hwork
    refine ⟨fun hoff => ?_, fun hon hv => ?_, fun hon hv => ?_⟩ <;> refine hexec.trans ?_
    · have hlate : ¬ (k.state = .late ∧ v ≠ k.service) := by rw [hoff]; exact fun h => nomatch h.1
      rw [if_neg hlate, MeterSlot.configured, if_pos hoff]
      rfl
    · rw [if_neg (fun h => h.2 hv), MeterSlot.configured, if_neg hon, if_pos hv]
      rfl
    · have hlate : (k.state = .late ∧ v ≠ k.service) ↔ k.state = .late := and_iff_left hv
      simp only [MeterSlot.configured, if_neg hon, if_neg hv, hlate, MeterService.credits_heating,
        MeterService.credits_cooling, decide_eq_true_eq, ite_not]
      rfl

/-! ## RETIRE METER and RE-REFERENCE METER (R53, R54) -/

section Slot

variable {s : State} {m : SlotNo}

/-- The Fault Table once the conditions of a slot that leaves LATE or SUSPECT are ended. -/
def MeterSlot.endedIn (k : MeterSlot) (m : SlotNo) (f : Faults) : Faults :=
  if k.state = .late then f.endCondition .meterLate (.meter m)
  else if k.state = .suspect then f.endCondition .meterSuspect (.meter m) else f

theorem State.endMeterConditions_eq (s : State) (m : SlotNo) :
    s.endMeterConditions m = { s with faults := (s.meter m).endedIn m s.faults } := by
  simp only [State.endMeterConditions, MeterSlot.endedIn]
  cases (s.meter m).state <;> rfl

theorem State.dropAssignment_of_unassigned (h : (s.meter m).target = .unassigned) : s.dropAssignment m = s := by
  simp only [State.dropAssignment, h]

theorem State.dropAssignment_of_account {a : AccountNo} (h : (s.meter m).target = .account a) :
    s.dropAssignment m = s.setAccount a ((s.account a).removeMeter m) := by
  simp only [State.dropAssignment, h]

theorem State.dropAssignment_of_pool {q : Pool} (h : (s.meter m).target = .pool q) :
    s.dropAssignment m = { s with pools := s.pools.set q ((s.pools.get q).filter fun k => decide (k ≠ m)) } := by
  simp only [State.dropAssignment, h]

theorem retireMeterWork_of_off (h : (s.meter m).state = .off) :
    retireMeterWork (BitVec.ofNat 8 m.val) s = .refuse s .wrongState := by
  simp only [retireMeterWork, slotOf_ofNat, if_pos h]

theorem retireMeterWork_of_on (h : (s.meter m).state ≠ .off) :
    retireMeterWork (BitVec.ofNat 8 m.val) s =
      let t := ((s.endMeterConditions m).dropAssignment m).setMeter m
        { (s.meter m).cleared .off with target := .unassigned }
      .ok (if (s.meter m).target = .unassigned then t
        else t.raise .meterRetiredAssigned (.meter m) s.clock.interval) [] := by
  simp only [retireMeterWork, slotOf_ofNat, if_neg h]

end Slot

/-- Settles O18: the work of RETIRE METER by what the slot is assigned to. -/
theorem retireMeter : Obligations.RetireMeter := by
  intro s m c k u ended off h
  refine ⟨fun hoff => exec_of_unchanged rfl h fun _ _ => retireMeterWork_of_off hoff, fun hon htarget => ?_,
    fun a hon htarget => ?_, fun q hon htarget => ?_⟩
  · refine exec_of_work { s with meters := s.meters.set m off, faults := ended } rfl h rfl fun ports arbiter => ?_
    refine (retireMeterWork_of_on (s := s.found .plant ports arbiter) hon).trans ?_
    have ht : ((s.found .plant ports arbiter).meter m).target = .unassigned := htarget
    simp only [State.endMeterConditions_eq]
    rw [State.dropAssignment_of_unassigned (by exact ht), if_pos ht]
    rfl
  · refine exec_of_work { s with
        meters := s.meters.set m off
        accounts := s.accounts.set a ((s.account a).removeMeter m)
        faults := ended.raise .meterRetiredAssigned (.meter m) s.clock.interval } rfl h rfl fun ports arbiter => ?_
    refine (retireMeterWork_of_on (s := s.found .plant ports arbiter) hon).trans ?_
    have ht : ((s.found .plant ports arbiter).meter m).target = .account a := htarget
    simp only [State.endMeterConditions_eq]
    rw [State.dropAssignment_of_account (by exact ht), if_neg (by rw [ht]; exact fun h => nomatch h)]
    rfl
  · refine exec_of_work { s with
        meters := s.meters.set m off
        pools := s.pools.set q ((s.pools.get q).filter fun n => decide (n ≠ m))
        faults := ended.raise .meterRetiredAssigned (.meter m) s.clock.interval } rfl h rfl fun ports arbiter => ?_
    refine (retireMeterWork_of_on (s := s.found .plant ports arbiter) hon).trans ?_
    have ht : ((s.found .plant ports arbiter).meter m).target = .pool q := htarget
    simp only [State.endMeterConditions_eq]
    rw [State.dropAssignment_of_pool (by exact ht), if_neg (by rw [ht]; exact fun h => nomatch h)]
    rfl

theorem reReferenceMeterWork_of_off {s : State} {m : SlotNo} (hidle : s.settleInFlight = false)
    (h : (s.meter m).state = .off) : reReferenceMeterWork (BitVec.ofNat 8 m.val) s = .refuse s .wrongState := by
  simp only [reReferenceMeterWork, slotOf_ofNat, hidle, Bool.false_eq_true, if_false, if_pos h]

theorem reReferenceMeterWork_of_on {s : State} {m : SlotNo} (hidle : s.settleInFlight = false)
    (h : (s.meter m).state ≠ .off) : reReferenceMeterWork (BitVec.ofNat 8 m.val) s =
      .ok (((s.endMeterConditions m).clearSlotBalances m).setMeter m ((s.meter m).cleared .unreferenced)) [] := by
  simp only [reReferenceMeterWork, slotOf_ofNat, hidle, Bool.false_eq_true, if_false, if_neg h]

theorem State.clearSlotBalances_of_account {s : State} {m : SlotNo} {a : AccountNo}
    (h : (s.meter m).target = .account a) :
    s.clearSlotBalances m = s.setAccount a ((s.account a).clearBalances (s.meter m).service) := by
  simp only [State.clearSlotBalances, h]

theorem State.clearSlotBalances_of_other {s : State} {m : SlotNo} (h : ∀ a, (s.meter m).target ≠ .account a) :
    s.clearSlotBalances m = s := by
  unfold State.clearSlotBalances
  split
  · next a ha => exact absurd ha (h a)
  · rfl
  · rfl

theorem Account.clearBalances_eq (r : Account) (v : MeterService) : r.clearBalances v = { r with
    work := ⟨if v = .cool then r.work.heating else { r.work.heating with balance := 0 },
      if v = .heat then r.work.cooling else { r.work.cooling with balance := 0 }⟩ } := by
  cases v <;> rfl

/-- Settles O19: the work of RE-REFERENCE METER by whether the slot credits account services. -/
theorem reReferenceMeter : Obligations.ReReferenceMeter := by
  intro s m c k u ended fresh h hidle
  refine ⟨fun hoff => exec_of_unchanged rfl h fun _ _ => reReferenceMeterWork_of_off hidle hoff, fun hon htarget => ?_,
    fun a hon htarget => ?_⟩
  · refine exec_of_work { s with meters := s.meters.set m fresh, faults := ended } rfl h rfl fun ports arbiter => ?_
    refine (reReferenceMeterWork_of_on (s := s.found .plant ports arbiter) hidle hon).trans ?_
    rw [State.endMeterConditions_eq, State.clearSlotBalances_of_other (by exact htarget)]
    rfl
  · refine exec_of_work { s with
        meters := s.meters.set m fresh
        accounts := s.accounts.set a { s.account a with
          work := ⟨if k.service = .cool then (s.account a).work.heating
              else { (s.account a).work.heating with balance := 0 },
            if k.service = .heat then (s.account a).work.cooling
              else { (s.account a).work.cooling with balance := 0 }⟩ }
        faults := ended } rfl h rfl fun ports arbiter => ?_
    refine (reReferenceMeterWork_of_on (s := s.found .plant ports arbiter) hidle hon).trans ?_
    rw [State.endMeterConditions_eq, State.clearSlotBalances_of_account (by exact htarget), Account.clearBalances_eq]
    rfl

/-! ## Plant slots (R59, R60) -/

section Plant

variable {s : State} {sv : Service} {count : Word}

theorem postPlantReadingWork_of_unreferenced (h : (s.plant.get sv).state = .unreferenced) :
    postPlantReadingWork (serviceCode sv) count s =
      .ok (s.setPlant sv { s.plant.get sv with reference := count, state := .live }) [0#8] := by
  simp only [postPlantReadingWork, serviceOf_code, h]

theorem postPlantReadingWork_of_held (h : (s.plant.get sv).state = .held) :
    postPlantReadingWork (serviceCode sv) count s = .refuse s .wrongState := by
  simp only [postPlantReadingWork, serviceOf_code, h]

theorem postPlantReadingWork_of_advance {energy : Nat} (h : (s.plant.get sv).state = .live)
    (hdelta : deltaOf (s.plant.get sv).scale 0 (s.plant.get sv).reference count = .advance energy) :
    postPlantReadingWork (serviceCode sv) count s = .ok (s.setPlant sv { s.plant.get sv with
      reference := count, delta := addSat Config.energyCap (s.plant.get sv).delta energy, posted := true }) [1#8] := by
  simp only [postPlantReadingWork, serviceOf_code, h, hdelta]

theorem postPlantReadingWork_of_rollback (h : (s.plant.get sv).state = .live)
    (hdelta : deltaOf (s.plant.get sv).scale 0 (s.plant.get sv).reference count = .rollback) :
    postPlantReadingWork (serviceCode sv) count s =
      .ok (((s.setPlant sv { s.plant.get sv with state := .held }).raise .plantRollback (.plant sv)
        s.clock.interval).raise .plantHeld (.plant sv) s.clock.interval) [2#8] := by
  simp only [postPlantReadingWork, serviceOf_code, h, hdelta]

theorem postPlantReadingWork_of_spike (h : (s.plant.get sv).state = .live)
    (hdelta : deltaOf (s.plant.get sv).scale 0 (s.plant.get sv).reference count = .spike) :
    postPlantReadingWork (serviceCode sv) count s =
      .ok (((s.setPlant sv { s.plant.get sv with state := .held }).raise .plantSpike (.plant sv)
        s.clock.interval).raise .plantHeld (.plant sv) s.clock.interval) [2#8] := by
  simp only [postPlantReadingWork, serviceOf_code, h, hdelta]

/-- What a count is against its reference, the cap alone applying (R46, R59). -/
theorem deltaOf_rollback {scale : Scale} {limit : Nat} {reference value : Word}
    (h : 2147483648 ≤ (value - reference).toNat) : deltaOf scale limit reference value = .rollback := if_pos h

theorem deltaOf_spike {scale : Scale} {limit : Nat} {reference value : Word} (h : (value - reference).toNat < 2147483648)
    (hs : (limit ≠ 0 ∧ limit < (value - reference).toNat * scale.factor) ∨
      268435455 < (value - reference).toNat * scale.factor) : deltaOf scale limit reference value = .spike :=
  (if_neg (Nat.not_le.2 h)).trans (if_pos hs)

theorem deltaOf_advance {scale : Scale} {limit : Nat} {reference value : Word}
    (h : (value - reference).toNat < 2147483648)
    (hs : ¬ ((limit ≠ 0 ∧ limit < (value - reference).toNat * scale.factor) ∨
      268435455 < (value - reference).toNat * scale.factor)) :
    deltaOf scale limit reference value = .advance ((value - reference).toNat * scale.factor) :=
  (if_neg (Nat.not_le.2 h)).trans (if_neg hs)

theorem reReferencePlantWork_eq (s : State) (sv : Service) : reReferencePlantWork (serviceCode sv) s =
    .ok { s with
      plant := s.plant.set sv { s.plant.get sv with state := .unreferenced, reference := 0#32 }
      faults := if (s.plant.get sv).state = .held then s.faults.endCondition .plantHeld (.plant sv) else s.faults } [] := by
  simp only [reReferencePlantWork, serviceOf_code]
  split <;> rfl

theorem configurePlantWork_eq (s : State) (sv : Service) (x : Scale) : configurePlantWork (serviceCode sv) x.code s =
    if (s.plant.get sv).state = .live then .refuse s .wrongState
    else .ok (s.setPlant sv { s.plant.get sv with scale := x }) [] := by
  simp only [configurePlantWork, serviceOf_code, scaleOf_code]

end Plant

/-- Settles O20: a reading by the plant slot's state and its delta, and the two settings of the slot. -/
theorem plantSlots : Obligations.PlantSlots := by
  refine ⟨fun s sv count => ?_, fun s sv => ⟨fun h => ?_, fun x h => ⟨fun hlive => ?_, fun hlive => ?_⟩⟩⟩
  · intro c k raw energy u h
    refine ⟨fun hk => ?_, fun hk hraw he => ?_, fun hk hraw => ?_, fun hk hraw he => ?_, fun hk => ?_⟩
    · exact exec_of_work { s with
          faults := s.faultsAt .plant, plant := s.plant.set sv { k with reference := count, state := .live } } rfl h rfl
        fun ports arbiter => postPlantReadingWork_of_unreferenced (s := s.found .plant ports arbiter) hk
    · refine exec_of_work { s with
          faults := s.faultsAt .plant
          plant := s.plant.set sv { k with
            reference := count, delta := min 268435455 (k.delta + energy), posted := true } } rfl h rfl
        fun ports arbiter => (postPlantReadingWork_of_advance (s := s.found .plant ports arbiter) hk
          (deltaOf_advance hraw fun h => h.elim (fun h => h.1 rfl) (Nat.not_lt.2 he))).trans ?_
      simp only [addSat_eq]
      rfl
    · exact exec_of_work { s with
          plant := s.plant.set sv { k with state := .held }
          faults := ((s.faultsAt .plant).raise .plantRollback (.plant sv) s.clock.interval).raise .plantHeld (.plant sv)
            s.clock.interval } rfl h rfl
        fun ports arbiter => postPlantReadingWork_of_rollback (s := s.found .plant ports arbiter) hk
          (deltaOf_rollback hraw)
    · exact exec_of_work { s with
          plant := s.plant.set sv { k with state := .held }
          faults := ((s.faultsAt .plant).raise .plantSpike (.plant sv) s.clock.interval).raise .plantHeld (.plant sv)
            s.clock.interval } rfl h rfl
        fun ports arbiter => postPlantReadingWork_of_spike (s := s.found .plant ports arbiter) hk
          (deltaOf_spike hraw (.inr he))
    · exact exec_of_unchanged rfl h fun _ _ => postPlantReadingWork_of_held hk
  · exact exec_of_work { s with
        plant := s.plant.set sv { s.plant.get sv with state := .unreferenced, reference := 0#32 }
        faults := if (s.plant.get sv).state = .held then (s.faultsAt .plant).endCondition .plantHeld (.plant sv)
          else s.faultsAt .plant } rfl h rfl fun ports arbiter => reReferencePlantWork_eq (s.found .plant ports arbiter) sv
  · exact exec_of_unchanged rfl h fun ports arbiter =>
      (configurePlantWork_eq (s.found .plant ports arbiter) sv x).trans (if_pos hlive)
  · exact exec_of_work { s with
        faults := s.faultsAt .plant, plant := s.plant.set sv { s.plant.get sv with scale := x } } rfl h rfl
      fun ports arbiter => (configurePlantWork_eq (s.found .plant ports arbiter) sv x).trans (if_neg hlive)

end Sys2Proof.Machine
end

section
/-!
PROOF. MARK (O21), the Billing Port's requests (O23, O25, O26, O29), what each port owns for itself (O30), the reads (O32) and
streams (O33).
-/

namespace Sys2Proof.Machine

/-! ## MARK (R27, R28) -/

/-- A boundary does not read the ports and the arbiter, and leaves them. -/
theorem State.boundary_of_outside (s : State) (ports : PerPort PortState) (arbiter : Arbiter) :
    State.boundary { s with ports := ports, arbiter := arbiter } =
      { s.boundary with ports := ports, arbiter := arbiter } := by
  rw [State.boundary_eq, State.boundary_eq, State.metersAtBoundary_eq, State.metersAtBoundary_eq]
  rfl

theorem State.alignmentBoundary_of_outside (s : State) (ports : PerPort PortState) (arbiter : Arbiter) :
    State.alignmentBoundary { s with ports := ports, arbiter := arbiter } =
      { s.alignmentBoundary with ports := ports, arbiter := arbiter } := rfl

theorem markWork_of_blank {s : State} (h : s.clock.store = .blank) : markWork s = .refuse s .wrongState := by
  simp only [markWork, h]

theorem markWork_of_aligning {s : State} (h : s.clock.store = .aligning) :
    markWork s = .ok s.alignmentBoundary [2#8] := by simp only [markWork, h]

theorem markWork_of_running {s : State} (h : s.clock.store = .running) (hidle : s.settleInFlight = false) :
    markWork s = if s.markTakesBoundary then .ok s.boundary [0#8] else .ok s.stretch [1#8] := by
  simp only [markWork, h, hidle, Bool.false_eq_true, if_false]

theorem State.markTakesBoundary_iff {s : State} : s.markTakesBoundary = true ↔
    s.clock.tickLoss = true ∨ s.clock.length * 30 ≤ s.clock.elapsed := by
  rw [State.markTakesBoundary, Bool.or_eq_true, decide_eq_true_eq]
  rfl

/-- Settles O21: by the store state, and in RUNNING by the half-length rule. -/
theorem markHalfLengthRule : Obligations.MarkHalfLengthRule := by
  intro s h
  refine ⟨fun hblank => ?_, fun haligning => ?_, fun hrunning hidle => ⟨fun htakes => ?_, fun hloss helapsed => ?_⟩⟩
  · exact exec_of_unchanged rfl h fun _ _ => markWork_of_blank hblank
  · let X := s.afterRequest .plant .ok [2#8]
    have hexec : exec (.mark .plant) s = .next X.alignmentBoundary := by
      refine exec_of_work (State.alignmentBoundary { s with faults := s.faultsAt .plant }) rfl h ?_ fun ports arbiter => ?_
      · rw [State.alignmentBoundary_eq]
      · exact markWork_of_aligning (s := s.found .plant ports arbiter) haligning
    refine ⟨X.alignmentBoundary, hexec, X.alignmentBoundary_spec, ?_⟩
    rw [State.alignmentBoundary_eq]
    exact ⟨rfl, rfl, rfl⟩
  · let X := s.afterRequest .plant .ok [0#8]
    have hexec : exec (.mark .plant) s = .next X.boundary := by
      have hX : X.boundary = { State.boundary { s with faults := s.faultsAt .plant } with
          ports := X.ports, arbiter := X.arbiter } :=
        State.boundary_of_outside { s with faults := s.faultsAt .plant } X.ports X.arbiter
      rw [hX]
      refine exec_of_work (State.boundary { s with faults := s.faultsAt .plant }) rfl h ?_ fun ports arbiter => ?_
      · exact (State.boundary_outside { s with faults := s.faultsAt .plant }).2.2
      · have hmark : (s.found .plant ports arbiter).markTakesBoundary = true := State.markTakesBoundary_iff.2 htakes
        rw [← State.boundary_of_outside]
        exact (markWork_of_running (s := s.found .plant ports arbiter) hrunning hidle).trans (if_pos hmark)
    exact ⟨X.boundary, hexec, X.boundary_spec, X.boundary_outside.1, X.boundary_outside.2.1⟩
  · have hmark (ports : PerPort PortState) (arbiter : Arbiter) :
        ¬ (s.found .plant ports arbiter).markTakesBoundary = true := by
      rw [State.markTakesBoundary_iff]
      exact fun h => h.elim (fun h => Bool.false_ne_true (hloss.symm.trans h)) (Nat.not_le.2 helapsed)
    exact exec_of_work { s with
        faults := s.faultsAt .plant
        clock := { s.clock with elapsed := 0, flags := { s.clock.flags with stretched := true } } } rfl h rfl
      fun ports arbiter =>
        (markWork_of_running (s := s.found .plant ports arbiter) hrunning hidle).trans (if_neg (hmark ports arbiter))

/-! ## JOIN PAIR and SPLIT PAIR (R17, R18) -/

theorem pairOf_ofNat {l u : AccountNo} (hodd : l.val % 2 = 1) (hu : u.val = l.val + 1) :
    pairOf (BitVec.ofNat 8 l.val) = some (l, u) := by
  have hval := toNat_ofNat_byte (n := l.val) (by omega)
  rw [pairOf_of_odd (hval.symm ▸ hodd) (by omega)]
  exact congrArg some (Prod.ext (Fin.ext hval) (Fin.ext ((congrArg Nat.succ hval).trans hu.symm)))

/-- Settles O23: both works test the tenancy states of the pair alone. -/
theorem pairRequests : Obligations.PairRequests := by
  intro s l u hodd hu hidle join split
  have hpair := pairOf_ofNat hodd hu
  have joinWork (t : State) (hidle : t.settleInFlight = false) : joinPairWork (BitVec.ofNat 8 l.val) t =
      if (t.account l).tenancy = .vacant ∧ (t.account u).tenancy = .vacant then
        .ok (t.setAccount u { t.account u with tenancy := .joined }) []
      else .refuse t .wrongState := by
    simp only [joinPairWork, hpair, hidle, Bool.false_eq_true, if_false]
  have splitWork (t : State) (hidle : t.settleInFlight = false) : splitPairWork (BitVec.ofNat 8 l.val) t =
      if (t.account u).tenancy = .joined ∧ (t.account l).tenancy = .vacant then
        .ok (t.setAccount u { (t.account u).vacancyReset with tenancy := .vacant }) []
      else .refuse t .wrongState := by
    simp only [splitPairWork, hpair, hidle, Bool.false_eq_true, if_false]
  refine ⟨fun h => ⟨fun hvacant => ?_, fun hnot => ?_⟩, fun h => ⟨fun hjoined => ?_, fun hnot => ?_⟩⟩
  · exact exec_of_work { s with
        faults := s.faultsAt .billing, accounts := s.accounts.set u { s.account u with tenancy := .joined } } rfl h rfl
      fun ports arbiter => (joinWork (s.found .billing ports arbiter) hidle).trans (if_pos hvacant)
  · exact exec_of_unchanged rfl h fun ports arbiter =>
      (joinWork (s.found .billing ports arbiter) hidle).trans (if_neg hnot)
  · exact exec_of_work { s with
        faults := s.faultsAt .billing
        accounts := s.accounts.set u { (s.account u).vacancyReset with tenancy := .vacant } } rfl h rfl
      fun ports arbiter => (splitWork (s.found .billing ports arbiter) hidle).trans (if_pos hjoined)
  · exact exec_of_unchanged rfl h fun ports arbiter =>
      (splitWork (s.found .billing ports arbiter) hidle).trans (if_neg hnot)

/-! ## ASSIGN METER and UNASSIGN METER (R55, R56) -/

theorem targetOf_account (a : AccountNo) : targetOf 1#8 (BitVec.ofNat 8 a.val) = .ok (.account a) := by
  simp only [targetOf, if_true, accountOf_ofNat]

theorem targetOf_pool (q : Pool) : targetOf 2#8 q.code = .ok (.pool q) := by cases q <;> rfl

/-- What an assignment to `g` asks of the slot itself. -/
def MeterSlot.assignable (k : MeterSlot) (g : Target) : Prop :=
  k.state ≠ .off ∧ k.target = .unassigned ∧ k.held = none ∧ (k.accumulation = ⟨0, 0⟩ ∨ k.owner = g)

theorem MeterSlot.nothingGathered_iff {k : MeterSlot} : k.nothingGathered = true ↔ k.accumulation = ⟨0, 0⟩ := by
  cases h : k.accumulation
  simp [MeterSlot.nothingGathered, h]

section Assign

variable {s : State} {m : SlotNo} {kind number : Byte} {g : Target} (htarget : targetOf kind number = .ok g)

include htarget

theorem assignMeterWork_of_accepted (hslot : (s.meter m).assignable g) (hroom : s.targetFree (s.meter m) g = true) :
    assignMeterWork (BitVec.ofNat 8 m.val) kind number s =
      .ok ((s.placeMeter m (s.meter m).service g).setMeter m { s.meter m with target := g, owner := g }) [] := by
  simp only [assignMeterWork, slotOf_ofNat, htarget]
  rw [if_neg]
  obtain ⟨hstate, hunassigned, hheld, howner⟩ := hslot
  rintro (h | h | h | h | ⟨h, hne⟩)
  · exact hstate h
  · exact h hunassigned
  · rw [hheld] at h
    cases h
  · rw [hroom] at h
    cases h
  · rcases howner with hzero | howner
    · rw [MeterSlot.nothingGathered_iff.2 hzero] at h
      cases h
    · exact hne howner

theorem assignMeterWork_of_refused (hnot : ¬ ((s.meter m).assignable g ∧ s.targetFree (s.meter m) g = true)) :
    assignMeterWork (BitVec.ofNat 8 m.val) kind number s = .refuse s .wrongState := by
  simp only [assignMeterWork, slotOf_ofNat, htarget]
  rw [if_pos]
  refine Classical.byContradiction fun hok => ?_
  obtain ⟨hstate, hok⟩ := not_or.1 hok
  obtain ⟨hunassigned, hok⟩ := not_or.1 hok
  obtain ⟨hheld, hok⟩ := not_or.1 hok
  obtain ⟨hfree, howner⟩ := not_or.1 hok
  refine hnot ⟨⟨hstate, Classical.not_not.1 hunassigned, by simpa using hheld, ?_⟩, by simpa using hfree⟩
  rw [← MeterSlot.nothingGathered_iff]
  refine (Classical.em _).imp_right fun h => ?_
  exact Classical.not_not.1 fun hne => howner ⟨by simpa using h, hne⟩

end Assign

/-- An account has room for a slot when its positions for the slot's services are empty. -/
theorem State.targetFree_account {s : State} {k : MeterSlot} {a : AccountNo} : s.targetFree k (.account a) = true ↔
    (k.service = .cool ∨ (s.account a).meterPos.heating = none) ∧
      (k.service = .heat ∨ (s.account a).meterPos.cooling = none) := by
  simp only [State.targetFree, MeterService.credits_heating, MeterService.credits_cooling, Bool.and_eq_true,
    Bool.not_eq_true', Bool.and_eq_false_iff, decide_eq_false_iff_not, ne_eq, Classical.not_not, Option.isSome_eq_false_iff,
    Option.isNone_iff_eq_none]

theorem State.targetFree_pool {s : State} {k : MeterSlot} {q : Pool} : s.targetFree k (.pool q) = true ↔
    (s.pools.get q).length < 8 := by
  rw [State.targetFree, decide_eq_true_eq]
  rfl

theorem State.placeMeter_account (s : State) (m : SlotNo) (v : MeterService) (a : AccountNo) :
    s.placeMeter m v (.account a) = s.setAccount a { s.account a with
      meterPos := ⟨if v = .cool then (s.account a).meterPos.heating else some m,
        if v = .heat then (s.account a).meterPos.cooling else some m⟩ } := by
  cases v <;> rfl

theorem unassignMeterWork_eq (s : State) (m : SlotNo) : unassignMeterWork (BitVec.ofNat 8 m.val) s =
    if (s.meter m).target = .unassigned then .refuse s .wrongState
    else .ok ((s.dropAssignment m).setMeter m { s.meter m with target := .unassigned }) [] := by
  simp only [unassignMeterWork, slotOf_ofNat]

/-- Settles O25: an assignment by the slot's state and the target's room, and its removal by the target. -/
theorem meterAssignment : Obligations.MeterAssignment := by
  refine ⟨fun s m => ?_, fun s m => ?_⟩
  · intro k free room assigned
    refine ⟨fun a => ?_, fun q => ?_⟩ <;> intro c h <;> refine ⟨fun hok => ?_, fun hnot => ?_⟩
    · refine exec_of_work { s with
          faults := s.faultsAt .billing
          meters := assigned (.account a)
          accounts := s.accounts.set a { s.account a with
            meterPos := ⟨if k.service = .cool then (s.account a).meterPos.heating else some m,
              if k.service = .heat then (s.account a).meterPos.cooling else some m⟩ } } rfl h rfl
        fun ports arbiter => (assignMeterWork_of_accepted (s := s.found .billing ports arbiter) (targetOf_account a)
          hok.1 (State.targetFree_account.2 hok.2)).trans ?_
      rw [State.placeMeter_account]
      rfl
    · exact exec_of_unchanged rfl h fun ports arbiter => assignMeterWork_of_refused
        (s := s.found .billing ports arbiter) (targetOf_account a) fun h => hnot ⟨h.1, State.targetFree_account.1 h.2⟩
    · exact exec_of_work { s with
          faults := s.faultsAt .billing
          meters := assigned (.pool q), pools := s.pools.set q (s.pools.get q ++ [m]) } rfl h rfl
        fun ports arbiter => assignMeterWork_of_accepted (s := s.found .billing ports arbiter) (targetOf_pool q)
          hok.1 (State.targetFree_pool.2 hok.2)
    · exact exec_of_unchanged rfl h fun ports arbiter => assignMeterWork_of_refused
        (s := s.found .billing ports arbiter) (targetOf_pool q) fun h => hnot ⟨h.1, State.targetFree_pool (k := k).1 h.2⟩
  · intro c k loose h
    refine ⟨fun htarget => ?_, fun a htarget => ?_, fun q htarget => ?_⟩
    · exact exec_of_unchanged rfl h fun ports arbiter =>
        (unassignMeterWork_eq (s.found .billing ports arbiter) m).trans (if_pos htarget)
    · refine exec_of_work { s with
          faults := s.faultsAt .billing, meters := loose
          accounts := s.accounts.set a ((s.account a).removeMeter m) } rfl h rfl
        fun ports arbiter => (unassignMeterWork_eq (s.found .billing ports arbiter) m).trans ?_
      rw [if_neg (by rw [State.found_meter, htarget]; exact fun h => nomatch h),
        State.dropAssignment_of_account (by exact htarget)]
      rfl
    · refine exec_of_work { s with
          faults := s.faultsAt .billing, meters := loose
          pools := s.pools.set q ((s.pools.get q).filter fun n => decide (n ≠ m)) } rfl h rfl
        fun ports arbiter => (unassignMeterWork_eq (s.found .billing ports arbiter) m).trans ?_
      rw [if_neg (by rw [State.found_meter, htarget]; exact fun h => nomatch h),
        State.dropAssignment_of_pool (by exact htarget)]
      rfl

/-! ## CLOSE PERIOD (R124) -/

theorem State.periodQueued_iff {s : State} : s.periodQueued = true ↔ ∃ x ∈ s.queue, x.kind = .period := by
  simp [State.periodQueued]

theorem State.closingInFlight_iff {s : State} :
    s.closingInFlight = true ↔ ∃ b, s.bank = some b ∧ b.periodEnd = true := by
  rw [State.closingInFlight, Option.any_eq_true]

/-- A PERIOD statement waits, or a settle that may issue one is in flight (R124). -/
def State.periodPending (s : State) : Prop :=
  (∃ x ∈ s.queue, x.kind = .period) ∨ ∃ b, s.bank = some b ∧ b.periodEnd = true

theorem closePeriodWork_of_stopped {s : State} (h : s.clock.store ≠ .running) :
    closePeriodWork s = periodAnswer s .wrongState := by simp only [closePeriodWork, if_pos h]

theorem closePeriodWork_of_staged {s : State} (h : s.clock.store = .running) (hstaged : s.stagedClose = true) :
    closePeriodWork s = periodAnswer s .ok := by
  simp only [closePeriodWork, h, ne_eq, not_true_eq_false, if_false, hstaged, if_true]

theorem closePeriodWork_of_pending {s : State} (h : s.clock.store = .running) (hstaged : s.stagedClose = false)
    (hpending : s.periodPending) : closePeriodWork s = periodAnswer s .statementsPending := by
  simp only [closePeriodWork, h, ne_eq, not_true_eq_false, if_false, hstaged, Bool.false_eq_true]
  rcases hpending with hqueue | hbank
  · rw [if_pos (State.periodQueued_iff.2 hqueue)]
  · rw [State.closingInFlight_iff.2 hbank]
    split <;> rfl

theorem closePeriodWork_of_clear {s : State} (h : s.clock.store = .running) (hstaged : s.stagedClose = false)
    (hpending : ¬ s.periodPending) : closePeriodWork s = periodAnswer { s with stagedClose := true } .ok := by
  obtain ⟨hqueue, hbank⟩ := not_or.1 hpending
  simp only [closePeriodWork, h, ne_eq, not_true_eq_false, if_false, hstaged, Bool.false_eq_true,
    mt State.periodQueued_iff.1 hqueue, mt State.closingInFlight_iff.1 hbank]

/-- Settles O26: the five conditions are the tests of the work, in their order. -/
theorem closePeriod : Obligations.ClosePeriod := by
  intro s c reply pending h
  refine ⟨fun hstore => ?_, fun hstore hstaged => ?_, fun hstore hstaged hpending => ?_,
    fun hstore hstaged hpending => ?_⟩
  · exact exec_of_unchanged rfl h fun ports arbiter => closePeriodWork_of_stopped hstore
  · refine exec_of_unchanged rfl h fun ports arbiter =>
      (closePeriodWork_of_staged (s := s.found .billing ports arbiter) hstore hstaged).trans ?_
    simp only [periodAnswer, State.periodBytes, State.found_stagedClose, hstaged]
    rfl
  · refine exec_of_unchanged rfl h fun ports arbiter =>
      (closePeriodWork_of_pending (s := s.found .billing ports arbiter) hstore hstaged hpending).trans ?_
    simp only [periodAnswer, State.periodBytes, State.found_stagedClose, hstaged]
    rfl
  · exact exec_of_work (p := .billing) { s with faults := s.faultsAt .billing, stagedClose := true } rfl h rfl
      fun ports arbiter => closePeriodWork_of_clear (s := s.found .billing ports arbiter) hstore hstaged hpending

/-! ## INITIALISE ACCOUNTS (R150, R151) -/

theorem State.tenanted_eq_false {s : State} :
    s.tenanted = false ↔ ∀ a : AccountNo, a ≠ 0 → (s.account a).tenancy = .vacant := by
  simp [State.tenanted]

/-- What INITIALISE ACCOUNTS asks of the store (R150). -/
def State.emptied (s : State) : Prop :=
  s.clock.store = .blank ∨ ((∀ a : AccountNo, a ≠ 0 → (s.account a).tenancy = .vacant) ∧ s.queue = [])

theorem initialiseAccountsWork_of_emptied {s : State} (hidle : s.settleInFlight = false) (h : s.emptied) :
    initialiseAccountsWork s = .ok s.initialise [] := by
  simp only [initialiseAccountsWork, hidle, Bool.false_eq_true, if_false]
  rcases h with hblank | ⟨hvacant, hqueue⟩
  · rw [if_pos hblank]
  · simp only [State.tenanted_eq_false.2 hvacant, hqueue, Bool.false_eq_true, if_false, List.isEmpty_nil, Bool.not_true]
    split <;> rfl

theorem initialiseAccountsWork_of_not_emptied {s : State} (hidle : s.settleInFlight = false) (h : ¬ s.emptied) :
    initialiseAccountsWork s = .refuse s .wrongState := by
  obtain ⟨hstore, hheld⟩ := not_or.1 h
  simp only [initialiseAccountsWork, hidle, Bool.false_eq_true, if_false, if_neg hstore]
  split
  · rfl
  · next hvacant =>
    rw [if_pos]
    have hqueue : s.queue ≠ [] := fun hq => hheld ⟨State.tenanted_eq_false.1 (by simpa using hvacant), hq⟩
    simpa using hqueue

/-- Settles O29: the work's tests, and the fields that its write leaves. -/
theorem initialiseAccounts : Obligations.InitialiseAccounts := by
  intro s c accepted h hidle
  refine ⟨fun hnot => exec_of_unchanged rfl h fun _ _ => initialiseAccountsWork_of_not_emptied hidle hnot, fun hok => ?_⟩
  refine ⟨(s.afterRequest .billing .ok []).initialise, ?_, rfl, fun a => Table.get_fill .., fun a => ?_⟩
  · exact exec_of_work (State.initialise { s with faults := s.faultsAt .billing }) rfl h rfl fun ports arbiter =>
      initialiseAccountsWork_of_emptied (s := s.found .billing ports arbiter) hidle hok
  · exact State.initialise_account _ a

/-! ## What each port owns for itself (R161, R167) and streams (R138, R180) -/

/-- A granted request whose work writes its own port's record. -/
theorem exec_of_portWork {c : Instr} {p : Port} {s : State} {q : PortState} {r : Result} {data : List Byte}
    (hport : c.port = some p) (h : s.grants c)
    (hwork : requestWork c (s.started p c.requestBytes) = ⟨(s.started p c.requestBytes).setPort p q, r, data⟩) :
    exec c s = .next { s with
      faults := s.faultsAt p
      ports := s.ports.set p { q with slot := .empty, reply := .ready r data false }
      arbiter := s.arbiterAfter p } := by
  have hgrant : s.grantsRequest p c.requestBytes = true := by simpa only [State.grants, hport] using h
  have hstart := State.started_eq hgrant
  have hother : (s.started p c.requestBytes).port p.other = s.port p.other := by
    rw [hstart]
    exact State.port_setPort_other s p _
  have hwaits : ((s.started p c.requestBytes).setPort p q).waiting (.port p.other) = s.waiting (.port p.other) := by
    refine State.waiting_port_congr ?_ ((State.port_setPort_other _ p q).trans hother)
    rw [hstart]
    rfl
  have hyield := State.started_yieldSet hgrant
  rw [exec_request hport (State.frame_ne_nil hgrant), State.serve_of_grantsRequest hgrant, hwork, Answer.close_eq]
  simp only [hwaits, State.port_setPort_self]
  generalize s.started p c.requestBytes = u at hstart hyield
  obtain ⟨x, y, rfl⟩ : ∃ x y, u = { s with ports := s.ports.set p x, faults := s.faultsAt p, arbiter := y } :=
    ⟨_, _, hstart⟩
  have hyield' : y.yieldSet = s.arbiter.yieldSet.filter fun q => decide (q ≠ .port p) := hyield
  simp only [State.setPort, State.arbiterAfter, hyield', PerPort.set_set]

/-- A request that starts has PENDING in its reply buffer: its own taking, or an earlier one, put it there. -/
theorem State.started_reply {s : State} {p : Port} {frame : List Byte} (h : s.grantsRequest p frame = true)
    (hpend : s.repliesPend) : ((s.started p frame).port p).reply = .pending := by
  rw [State.started_port h]
  simp only
  split
  · rfl
  · next hslot => exact hpend p hslot

theorem State.attentionByte_setEnables (s : State) (p : Port) (e : Enables) (hreply : (s.port p).reply = .pending) :
    (s.setEnables p e).attentionByte p =
      bit (decide (0 < s.faults.noticeCount p) || s.faults.overflow.get p) 7 ||| bit (s.port p).settled 5 |||
        bit (decide (p = .billing) && !s.queue.isEmpty) 4 |||
        bit e.notice 3 ||| bit e.reply 2 ||| bit e.settled 1 ||| bit e.statement 0 := by
  have hwaiting : PortState.replyWaiting { s.port p with enables := e } = false := by
    simp only [PortState.replyWaiting, hreply]
  have hport : (s.setEnables p e).ports.get p = { s.port p with enables := e } := State.port_setPort_self s p _
  have hzero : bit false 6 = 0#8 := rfl
  simp only [State.attentionByte, State.sources, hport, hwaiting, hzero, BitVec.or_zero]
  rfl

/-- Settles O30: the mask and the enables are the port's own; no reply waits while the request is in its slot. -/
theorem ownPortRequests : Obligations.OwnPortRequests := by
  intro s p
  refine ⟨fun mask h => ?_, fun b hpend h => ?_⟩
  · exact exec_of_work { s with
        faults := { s.faultsAt p with mask := (s.faultsAt p).mask.set p (mask &&& 0x003FFFFF#32) } } rfl h rfl
      fun _ _ => rfl
  · intro e f reply
    have hgrant : s.grantsRequest p (Instr.setAtnEnables p b).requestBytes = true := h
    have hstart := State.started_port hgrant
    have hfields := State.started_eq hgrant
    refine (exec_of_portWork (q := { (s.started p (Instr.setAtnEnables p b).requestBytes).port p with enables := e })
      (r := .ok) (data := [reply]) rfl h ?_).trans ?_
    · have hbyte := State.attentionByte_setEnables (s.started p (Instr.setAtnEnables p b).requestBytes) p e
        (State.started_reply hgrant hpend)
      have hreply : ((s.started p (Instr.setAtnEnables p b).requestBytes).setEnables p e).attentionByte p = reply := by
        rw [hbyte, hstart, hfields]
      exact congrArg (Answer.ok _) (congrArg (fun x => [x]) hreply)
    · rw [hstart]
      rfl

/-- What a port's grant finds: the arbiter taken, and its PORT-FRAME raise made (R157, R172). -/
theorem State.openGrant_port (s : State) (p : Port) : s.openGrant (.port p) = { s with
    faults := s.faultsAt p
    ports := s.ports.set p { s.port p with framePending := false }
    arbiter := (s.beginGrant (.port p)).arbiter } := by
  cases hframe : (s.port p).framePending with
  | false =>
    have hself : s.ports.set p { s.port p with framePending := false } = s.ports := by
      have hp : { s.port p with framePending := false } = s.port p := by rw [← hframe]
      rw [hp]
      exact PerPort.set_get _ _
    have hcarried : (s.beginGrant (.port p)).carriedRaises (.port p) = s.beginGrant (.port p) :=
      if_neg (by rw [show ((s.beginGrant (.port p)).port p).framePending = false from hframe]; exact Bool.false_ne_true)
    rw [hself, State.openGrant, hcarried, State.faultsAt, hframe]
    rfl
  | true =>
    have hcarried : (s.beginGrant (.port p)).carriedRaises (.port p) =
        ((s.beginGrant (.port p)).raise .portFrame (.port p) s.clock.interval).setPort p
          { s.port p with framePending := false } := if_pos hframe
    rw [State.openGrant, hcarried, State.faultsAt, hframe]
    rfl

/-- One operation of a port that writes its own record. -/
theorem State.operation_port {s : State} {p : Port} {q : PortState} {enabled : Bool} {work : State → State}
    (henabled : enabled = true) (hgrant : s.nextGrant = some (.port p))
    (hwork : work (s.openGrant (.port p)) = (s.openGrant (.port p)).setPort p q) :
    s.operation (.port p) enabled work = { s with
      faults := s.faultsAt p, ports := s.ports.set p q, arbiter := s.arbiterAfter p } := by
  have hwaits : ((s.openGrant (.port p)).setPort p q).waiting (.port p.other) = s.waiting (.port p.other) := by
    refine State.waiting_port_congr ?_ ?_
    · rw [State.openGrant_port]
      rfl
    · rw [State.port_setPort_other, State.openGrant_port]
      exact State.port_setPort_other s p _
  rw [State.operation, henabled, hgrant, if_pos (by simp), hwork, State.endGrant]
  simp only [hwaits]
  rw [State.openGrant_port]
  simp only [State.setPort, PerPort.set_set]
  rfl

/-- Settles O33: the request leaves the stream in its port, and a preparation takes the record as it then stands. -/
theorem streamAccounts : Obligations.StreamAccounts := by
  intro s p a bytes
  refine ⟨fun count h => ?_, fun left hslot hstream hgrant => ?_⟩
  · intro n
    have hgrant : s.grantsRequest p (Instr.streamAccounts p (BitVec.ofNat 8 a.val) count).requestBytes = true := h
    have hcount : streamCount a count = n := clamp_eq (by omega) _
    refine (exec_of_portWork (r := .ok) (data := bytes)
      (q := { (s.started p (Instr.streamAccounts p (BitVec.ofNat 8 a.val) count).requestBytes).port p with
        stream := some ⟨a.val + 1, n - 1⟩ }) rfl h ?_).trans ?_
    · have hacc (b : AccountNo) :
          (s.started p (Instr.streamAccounts p (BitVec.ofNat 8 a.val) count).requestBytes).account b = s.account b := by
        rw [State.started_eq hgrant]
        rfl
      simp only [requestWork, streamAccountsWork, accountOf_ofNat, hcount, hacc]
      rfl
    · rw [State.started_port hgrant]
      rfl
  · have hval : Fin.ofNat 48 a.val = a := Fin.ext (Nat.mod_eq_of_lt a.isLt)
    have hport : (s.openGrant (.port p)).port p = { s.port p with framePending := false } := by
      rw [State.openGrant_port]
      exact State.port_setPort_self s p _
    have hacc : (s.openGrant (.port p)).account a = s.account a := by
      rw [State.openGrant_port]
      rfl
    refine congrArg Host.Outcome.next (State.operation_port (by simp [hslot]) hgrant ?_)
    simp only [State.prepareRecord, hport, hstream, hval, hacc]
    rfl

/-! ## Reads (R20, R37, R61, R68, R84, R132, R137, R165) -/

theorem readStatementWork_of_cons {s : State} {x : Statement} {rest : List Statement} (h : s.queue = x :: rest) :
    readStatementWork s = .ok s (s.statementHeader ++ x.bytes) := by simp only [readStatementWork, h]

theorem readStatementWork_of_nil {s : State} (h : s.queue = []) :
    readStatementWork s = ⟨s, .empty, s.statementHeader⟩ := by simp only [readStatementWork, h]

theorem readIntervalSummaryWork_of_held {s : State} {age : Byte} {x : Summary} (hage : age.toNat ≤ 15)
    (h : s.ring[age.toNat]? = some x) :
    readIntervalSummaryWork age s = .ok s (byteOf s.ring.length :: x.bytes) := by
  simp only [readIntervalSummaryWork, if_neg (Nat.not_lt.2 hage), h]

theorem readIntervalSummaryWork_of_none {s : State} {age : Byte} (hage : age.toNat ≤ 15)
    (h : s.ring.length ≤ age.toNat) :
    readIntervalSummaryWork age s = ⟨s, .wrongState, [byteOf s.ring.length]⟩ := by
  simp only [readIntervalSummaryWork, if_neg (Nat.not_lt.2 hage), List.getElem?_eq_none h]

theorem readFaultEntryWork_of_held {s : State} {i : Position} {e : FaultEntry} (h : s.faults.entries.get i = some e) :
    readFaultEntryWork (BitVec.ofNat 8 i.val) s = .ok s (e.bytes i) := by
  simp only [readFaultEntryWork, positionOf_ofNat, h]

theorem readFaultEntryWork_of_none {s : State} {i : Position} (h : s.faults.entries.get i = none) :
    readFaultEntryWork (BitVec.ofNat 8 i.val) s = .refuse s .wrongState := by
  simp only [readFaultEntryWork, positionOf_ofNat, h]

/-- Settles O32: no read writes anything but the free bytes' counter and the line levels, and each answers its layout. -/
theorem readsChangeNothing : Obligations.ReadsChangeNothing := by
  refine ⟨fun s p => ⟨fun a h => ?account, fun h => ?clock, fun m h => ?meter, fun sv h => ?plant, fun h => ?line,
    fun levels h => ?runtime, fun h => ?tariff, fun h => ?map, fun i h => ⟨fun e he => ?entry, fun hnone => ?noEntry⟩⟩,
    fun s p => ?_⟩
  case account =>
    refine exec_of_unchanged rfl h fun ports arbiter => ?_
    simp only [requestWork, readAccountWork, accountOf_ofNat]
    rfl
  case clock =>
    exact exec_of_work { s with faults := s.faultsAt p, freeSeq := s.freeSeq + 3 } rfl h rfl fun _ _ => rfl
  case meter =>
    refine exec_of_work { s with faults := s.faultsAt p, freeSeq := s.freeSeq + 2 } rfl h rfl fun ports arbiter => ?_
    simp only [requestWork, readMeterWork, slotOf_ofNat]
    rfl
  case plant =>
    refine exec_of_unchanged rfl h fun ports arbiter => ?_
    simp only [requestWork, readPlantWork, serviceOf_code]
    rfl
  case line => exact exec_of_unchanged rfl h fun _ _ => rfl
  case runtime =>
    exact exec_of_work { s with faults := s.faultsAt p, linePins := some levels } rfl h rfl fun _ _ => rfl
  case tariff =>
    exact exec_of_work { s with faults := s.faultsAt p, freeSeq := s.freeSeq + 2 } rfl h rfl fun _ _ => rfl
  case map => exact exec_of_unchanged rfl h fun _ _ => rfl
  case entry =>
    exact exec_of_unchanged rfl h fun ports arbiter => readFaultEntryWork_of_held (s := s.found p ports arbiter) he
  case noEntry =>
    exact exec_of_unchanged rfl h fun ports arbiter => readFaultEntryWork_of_none (s := s.found p ports arbiter) hnone
  intro header
  refine ⟨fun h => ⟨fun hnil => ?empty, fun x rest hqueue => ?head⟩, fun age hage h => ⟨fun x hx => ?held, fun hlen => ?none⟩⟩
  case empty =>
    exact exec_of_unchanged rfl h fun ports arbiter => readStatementWork_of_nil (s := s.found p ports arbiter) hnil
  case head =>
    exact exec_of_unchanged rfl h fun ports arbiter => readStatementWork_of_cons (s := s.found p ports arbiter) hqueue
  case held =>
    exact exec_of_unchanged rfl h fun ports arbiter =>
      readIntervalSummaryWork_of_held (s := s.found p ports arbiter) hage hx
  case none =>
    exact exec_of_unchanged rfl h fun ports arbiter =>
      readIntervalSummaryWork_of_none (s := s.found p ports arbiter) hage hlen

end Sys2Proof.Machine
end

section
/-!
PROOF. The ports outside: transactions (O7, O8), the PORT-FRAME raise (O9), STATUS and FETCH (O10, O11) and what a port shows
(O12).
-/

namespace Sys2Proof.Machine

/-! ## Bytes clocked out (R173, R179) -/

theorem bigEndian_length (k n : Nat) : (bigEndian k n).length = k := by
  induction k with
  | zero => rfl
  | succ k ih => simp only [bigEndian, List.length_cons, ih]

theorem shifted_eq (n : Nat) (bytes : List Byte) : shifted n bytes = (bytes ++ List.replicate n 0#8).take n := by
  rw [shifted, List.take_append, List.take_append, List.take_replicate, List.take_replicate, Nat.min_self,
    Nat.min_eq_left (Nat.sub_le _ _)]

theorem shifted_add (m n : Nat) (bytes : List Byte) : shifted m bytes ++ shifted n (bytes.drop m) = shifted (m + n) bytes := by
  simp only [shifted, List.take_append, List.take_replicate, List.length_drop, Nat.min_self]
  rcases Nat.le_total bytes.length m with h | h
  · have hdrop : bytes.drop m = [] := List.drop_eq_nil_of_le h
    rw [hdrop, List.take_of_length_le h, List.take_of_length_le (by omega : bytes.length ≤ m + n), List.take_nil,
      List.nil_append, List.append_assoc, List.replicate_append_replicate]
    congr 2
    omega
  · have hzero : m - bytes.length = 0 := by omega
    have hrest : n - (bytes.length - m) = m + n - bytes.length := by omega
    rw [hzero, hrest, List.replicate_zero, List.append_nil, ← List.append_assoc, ← List.take_add]

namespace PortState

variable (q : PortState) (serving : Serving)

/-- The effect of the last byte served does not read the transaction and the bytes shifted out, and leaves them. -/
theorem servedFull_outside (tr : Transaction) (out : List Byte) :
    servedFull { q with transaction := tr, dataOut := out } serving =
      { q.servedFull serving with transaction := tr, dataOut := out } := by
  cases serving with
  | status reported => rfl
  | fetch ready =>
    cases ready with
    | false => rfl
    | true =>
      unfold servedFull
      simp only
      split
      · unfold fetchedFull
        simp only
        split
        · rfl
        · split <;> rfl
      · rfl
      · rfl

/-- The port once `n` bytes of `rest` are clocked: what is left to shift, the bytes out, and the effect of the last. -/
theorem clockOut_eq (rest : List Byte) (n : Nat) : q.clockOut serving rest n =
    { (if rest ≠ [] ∧ rest.length ≤ n then q.servedFull serving else q) with
      transaction := .shiftOut serving (rest.drop n), dataOut := q.dataOut ++ shifted n rest } := by
  unfold clockOut
  simp only
  split
  · exact servedFull_outside _ _ _ _
  · rfl

theorem clockOut_transaction (rest : List Byte) (n : Nat) :
    (q.clockOut serving rest n).transaction = .shiftOut serving (rest.drop n) := by rw [clockOut_eq]

theorem servedFull_selected : (q.servedFull serving).selected = q.selected := by
  cases serving with
  | status reported => rfl
  | fetch ready =>
    cases ready with
    | false => rfl
    | true =>
      unfold servedFull
      simp only
      split
      · unfold fetchedFull
        split
        · rfl
        · split <;> rfl
      · rfl
      · rfl

theorem clockOut_selected (rest : List Byte) (n : Nat) : (q.clockOut serving rest n).selected = q.selected := by
  rw [clockOut_eq]
  simp only
  split
  · exact q.servedFull_selected serving
  · rfl

/-- No byte clocked leaves a port that shifts these bytes out as it was. -/
theorem clockOut_zero {rest : List Byte} (h : q.transaction = .shiftOut serving rest) : q.clockOut serving rest 0 = q := by
  rw [clockOut_eq, if_neg (fun h => h.1 (List.length_eq_zero_iff.1 (Nat.le_zero.1 h.2)))]
  have hout : q.dataOut ++ shifted 0 rest = q.dataOut := by rw [shifted, List.take_zero, List.append_nil]
  rw [hout, List.drop_zero, ← h]

/-- Bytes clocked in two parts leave what they leave clocked at once. -/
theorem clockOut_clockOut (rest : List Byte) (m n : Nat) :
    (q.clockOut serving rest m).clockOut serving (rest.drop m) n = q.clockOut serving rest (m + n) := by
  have hout : q.dataOut ++ shifted m rest ++ shifted n (rest.drop m) = q.dataOut ++ shifted (m + n) rest := by
    rw [List.append_assoc, shifted_add]
  rw [clockOut_eq, clockOut_eq, clockOut_eq, List.drop_drop, hout]
  by_cases hfirst : rest ≠ [] ∧ rest.length ≤ m
  · have hnil : rest.drop m = [] := List.drop_eq_nil_of_le hfirst.2
    rw [if_pos hfirst, if_neg (fun h => h.1 hnil), if_pos ⟨hfirst.1, Nat.le_trans hfirst.2 (Nat.le_add_right _ _)⟩]
  · have hboth : (rest.drop m ≠ [] ∧ (rest.drop m).length ≤ n) ↔ (rest ≠ [] ∧ rest.length ≤ m + n) := by
      rw [List.ne_nil_iff_length_pos, List.ne_nil_iff_length_pos, List.length_drop]
      rw [List.ne_nil_iff_length_pos] at hfirst
      omega
    rw [if_neg hfirst]
    simp only [hboth]
    split
    · rw [servedFull_outside]
    · rfl

end PortState

theorem replyBytes_length (r : Result) (data : List Byte) : (replyBytes r data).length = data.length + 3 := by
  simp only [replyBytes, List.length_append, List.length_cons, bigEndian_length]
  omega

theorem State.extendedBytes_length (s : State) (p : Port) : (s.extendedBytes p).length = 16 := by
  simp only [State.extendedBytes, List.length_append, List.length_cons, List.length_nil, bigEndian_length]

theorem State.interfacesRun_setPort (s : State) (p : Port) (q : PortState) :
    (s.setPort p q).interfacesRun = s.interfacesRun := rfl

theorem State.setPort_setPort (s : State) (p : Port) (q r : PortState) : (s.setPort p q).setPort p r = s.setPort p r := by
  simp only [State.setPort, PerPort.set_set]

theorem State.setPort_port (s : State) (p : Port) : s.setPort p (s.port p) = s := by
  have h : s.ports.set p (s.port p) = s.ports := PerPort.set_get _ _
  rw [State.setPort, h]

/-! ## TRANSACTION_START (R169, R170) -/

/-- Settles O7: the three branches of the command. -/
theorem transactionStartLatches : Obligations.TransactionStartLatches := by
  intro s p
  refine ⟨fun hrun hsel => ?_, fun hstop hsel => ?_, fun hsel => ?_⟩ <;>
    refine congrArg Host.Outcome.next ?_ <;> simp only [hsel, Bool.false_eq_true, if_false, if_true]
  · rw [if_pos hrun]
    rfl
  · rw [if_neg (by rw [hstop]; exact Bool.false_ne_true)]
    rfl

/-! ## PORT_FRAME_RAISE (R157, R172) -/

/-- Settles O9: the grant's own raise is the whole operation. -/
theorem portFrameRaiseRaises : Obligations.PortFrameRaiseRaises := by
  intro s p hframe hnone hgrant
  have hraised : s.faultsAt p = s.faults.raise .portFrame (.port p) s.clock.interval := by
    rw [State.faultsAt, if_pos hframe]
  refine congrArg Host.Outcome.next ?_
  rw [State.operation_port (q := { s.port p with framePending := false }) (by rw [hframe, hnone]; rfl) hgrant, hraised]
  have hport : (s.openGrant (.port p)).port p = { s.port p with framePending := false } := by
    rw [State.openGrant_port]
    exact State.port_setPort_self s p _
  rw [← hport, State.setPort_port]

/-! ## STATUS (R173, R174) -/

/-- Settles O10: the bytes shifted out, and the flags by whether the sixteenth is among them. -/
theorem statusShiftsAndClears : Obligations.StatusShiftsAndClears := by
  intro s p n
  refine ⟨fun hrun hcode => ?_, fun hrun reported rest hshift => ?_, fun hstop => ?_⟩
  · have hne : s.extendedBytes p ≠ [] := List.ne_nil_of_length_eq_add_one (s.extendedBytes_length p)
    refine congrArg Host.Outcome.next ?_
    rw [if_pos hrun, State.clockStatus, hcode]
    simp only [State.serveStatus, PortState.clockOut_eq, State.extendedBytes_length, ne_eq, hne, not_false_eq_true,
      true_and, List.nil_append, shifted_eq]
    by_cases hfull : 16 ≤ n
    · simp [hfull, State.setPort, PortState.servedFull, PortState.statusFull]
    · simp [hfull, State.setPort]
  · refine congrArg Host.Outcome.next ?_
    rw [if_pos hrun, State.clockStatus, hshift]
    simp only [PortState.clockOut_eq, shifted_eq]
    by_cases hfull : rest ≠ [] ∧ rest.length ≤ n
    · simp [hfull.1, hfull.2, State.setPort, PortState.servedFull, PortState.statusFull]
    · rw [← Bool.decide_and, decide_eq_false hfull]
      simp [if_neg hfull, State.setPort]
  · exact congrArg Host.Outcome.next (if_neg (by rw [hstop]; exact Bool.false_ne_true))

/-! ## FETCH (R179, R180) -/

theorem exec_fetch_of_run {s : State} (h : s.interfacesRun = true) (p : Port) (n : Nat) :
    exec (.fetch p n) s = .next (s.clockFetch p n) := congrArg Host.Outcome.next (if_pos h)

theorem exec_status_of_run {s : State} (h : s.interfacesRun = true) (p : Port) (n : Nat) :
    exec (.status p n) s = .next (s.clockStatus p n) := congrArg Host.Outcome.next (if_pos h)

theorem State.clockFetch_of_code {s : State} {p : Port} (h : (s.port p).transaction = .code) (n : Nat) :
    s.clockFetch p n = s.setPort p (PortState.clockOut { s.port p with dataOut := [] } (s.port p).reply.served.1
      (s.port p).reply.served.2 n) := by
  simp only [State.clockFetch, h, State.serveFetch]

theorem State.clockFetch_of_shiftOut {s : State} {p : Port} {ready : Bool} {rest : List Byte}
    (h : (s.port p).transaction = .shiftOut (.fetch ready) rest) (n : Nat) :
    s.clockFetch p n = s.setPort p ((s.port p).clockOut (.fetch ready) rest n) := by
  simp only [State.clockFetch, h]

theorem State.clockStatus_of_code {s : State} {p : Port} (h : (s.port p).transaction = .code) (n : Nat) :
    s.clockStatus p n = s.serveStatus p n := by simp only [State.clockStatus, h]

theorem State.clockStatus_of_shiftOut {s : State} {p : Port} {reported : Bool} {rest : List Byte}
    (h : (s.port p).transaction = .shiftOut (.status reported) rest) (n : Nat) :
    s.clockStatus p n = s.setPort p ((s.port p).clockOut (.status reported) rest n) := by
  simp only [State.clockStatus, h]

section FetchedFull

variable {q : PortState} {r : Result} {data : List Byte}

theorem PortState.fetchedFull_of_none (h : q.stream = none) :
    q.fetchedFull r data = { q with reply := .ready r data true } := by simp only [PortState.fetchedFull, h]

theorem PortState.fetchedFull_of_last {next : Nat} (h : q.stream = some ⟨next, 0⟩) :
    q.fetchedFull r data = { q with reply := .ready .atEnd [] false, stream := none } := by
  simp only [PortState.fetchedFull, h, if_true]

theorem PortState.fetchedFull_of_more {next left : Nat} (h : q.stream = some ⟨next, left + 1⟩) :
    q.fetchedFull r data = { q with reply := .pending, slot := .preparing } := by
  simp only [PortState.fetchedFull, h, Nat.add_one_ne_zero, if_false]

end FetchedFull

/-- What FETCH serves is a FETCH's, of a READY reply or of one that is not. -/
theorem ReplyBuffer.served_fetch (b : ReplyBuffer) : ∃ ready, b.served.1 = .fetch ready := by
  cases b <;> exact ⟨_, rfl⟩

theorem ReplyBuffer.served_of_not_ready {b : ReplyBuffer} (h : ∀ r data fetched, b ≠ .ready r data fetched) :
    b.served = (.fetch false, [0x01#8, 0#8, 0#8]) := by
  cases b with
  | ready r data fetched => exact absurd rfl (h r data fetched)
  | pending => rfl
  | empty => rfl

/-- A FETCH clocked in two parts. -/
theorem State.clockFetch_clockFetch {s : State} {p : Port} (h : (s.port p).transaction = .code ∨
    ∃ ready rest, (s.port p).transaction = .shiftOut (.fetch ready) rest) (m n : Nat) :
    (s.clockFetch p m).clockFetch p n = s.clockFetch p (m + n) := by
  have both (q : PortState) (ready : Bool) (rest : List Byte)
      (hfirst : s.clockFetch p m = s.setPort p (q.clockOut (.fetch ready) rest m))
      (hsum : s.clockFetch p (m + n) = s.setPort p (q.clockOut (.fetch ready) rest (m + n))) :
      (s.clockFetch p m).clockFetch p n = s.clockFetch p (m + n) := by
    have hport : (s.setPort p (q.clockOut (.fetch ready) rest m)).port p = q.clockOut (.fetch ready) rest m :=
      State.port_setPort_self s p _
    rw [hfirst, hsum, State.clockFetch_of_shiftOut (ready := ready) (rest := rest.drop m)
      (by rw [hport, PortState.clockOut_transaction]), hport, State.setPort_setPort, PortState.clockOut_clockOut]
  rcases h with hcode | ⟨ready, rest, hshift⟩
  · obtain ⟨ready, hready⟩ := (s.port p).reply.served_fetch
    refine both { s.port p with dataOut := [] } ready (s.port p).reply.served.2 ?_ ?_ <;>
      rw [State.clockFetch_of_code hcode, hready]
  · exact both (s.port p) ready rest (State.clockFetch_of_shiftOut hshift m) (State.clockFetch_of_shiftOut hshift _)

/-- Settles O11: what the buffer serves, the effect of its last byte by the stream, and a FETCH in two parts. -/
theorem fetchReturnsReply : Obligations.FetchReturnsReply := by
  intro s p n
  refine ⟨fun hrun hcode => ⟨fun r data fetched hreply => ?_, fun hnot => ?_⟩, fun hrun m t hopen hfirst => ?_,
    fun hstop => ?_⟩
  · intro bytes q
    have hserved : (s.port p).reply.served = (.fetch true, bytes) := by rw [hreply]; rfl
    have hlength : bytes.length = data.length + 3 := replyBytes_length r data
    have hne : bytes ≠ [] := List.cons_ne_nil _ _
    rw [exec_fetch_of_run hrun, State.clockFetch_of_code hcode, hserved, PortState.clockOut_eq, hlength,
      List.nil_append, shifted_eq]
    have hfull (h : data.length + 3 ≤ n) : bytes ≠ [] ∧ data.length + 3 ≤ n := ⟨hne, h⟩
    have heffect : PortState.servedFull { s.port p with dataOut := [] } (.fetch true) =
        PortState.fetchedFull { s.port p with dataOut := [] } r data := by
      simp only [PortState.servedFull, hreply]
    refine ⟨fun h => ?_, fun h hstream => ?_, fun next h hstream => ?_, fun next left h hstream => ?_⟩
    · rw [if_neg fun h' => Nat.not_le.2 h h'.2]
      rfl
    · rw [if_pos (hfull h), heffect, PortState.fetchedFull_of_none (by exact hstream)]
      rfl
    · rw [if_pos (hfull h), heffect, PortState.fetchedFull_of_last (by exact hstream)]
      rfl
    · rw [if_pos (hfull h), heffect, PortState.fetchedFull_of_more (by exact hstream)]
      rfl
  · rw [exec_fetch_of_run hrun, State.clockFetch_of_code hcode, ReplyBuffer.served_of_not_ready hnot,
      PortState.clockOut_eq, List.nil_append, shifted_eq]
    have hnone : (if [0x01#8, 0#8, 0#8] ≠ [] ∧ [0x01#8, 0#8, 0#8].length ≤ n
        then PortState.servedFull { s.port p with dataOut := [] } (.fetch false)
        else { s.port p with dataOut := [] }) = { s.port p with dataOut := [] } := ite_self _
    rw [hnone]
    rfl
  · rw [exec_fetch_of_run hrun, Host.Outcome.next.injEq] at hfirst
    have hrun' : t.interfacesRun = true := by
      rw [← hfirst]
      rcases hopen with hcode | ⟨ready, rest, hshift⟩
      · rw [State.clockFetch_of_code hcode]
        exact hrun
      · rw [State.clockFetch_of_shiftOut hshift]
        exact hrun
    rw [exec_fetch_of_run hrun', exec_fetch_of_run hrun, ← hfirst, State.clockFetch_clockFetch hopen]
  · exact congrArg Host.Outcome.next (if_neg (by rw [hstop]; exact Bool.false_ne_true))

/-! ## TRANSACTION_END (R169, R171, R172, R175) -/

section TransactionEnd

variable {s : State} {p : Port}

theorem exec_transactionEnd_of_run (hrun : s.interfacesRun = true) (hsel : (s.port p).selected = true)
    (bytes : List Byte) : exec (.transactionEnd p bytes) s = .next ((s.judgeOpen p bytes).deselect p) := by
  refine congrArg Host.Outcome.next ?_
  rw [hsel, if_neg (by decide), if_pos hrun]

/-- No byte is judged, whatever the transaction. -/
theorem State.judgeOpen_nil (s : State) (p : Port) : s.judgeOpen p [] = s := by
  unfold State.judgeOpen
  split
  · rfl
  · rfl
  · next h => rw [List.length_nil, PortState.clockOut_zero _ _ h, State.setPort_port]
  · rfl
  · rfl

/-- Bytes that chip-select's rise serves first leave what serving them before it leaves. -/
theorem exec_transactionEnd_of_served {t : State} {bytes : List Byte} {q : PortState} (hrun : s.interfacesRun = true)
    (hsel : (s.port p).selected = true) (hopen : s.judgeOpen p bytes = t) (ht : t = s.setPort p q)
    (hq : q.selected = true) : exec (.transactionEnd p bytes) s = exec (.transactionEnd p []) t := by
  subst ht
  have hport : (s.setPort p q).port p = q := State.port_setPort_self s p q
  rw [exec_transactionEnd_of_run hrun hsel, hopen,
    exec_transactionEnd_of_run (s := s.setPort p q) hrun (by rw [hport]; exact hq), State.judgeOpen_nil]

/-- A frame in CODE or BODY is judged by its code and its length. -/
theorem State.judgeOpen_frame {code : Byte} {body : List Byte}
    (h : (s.port p).transaction = .code ∨ (s.port p).transaction = .body) (hstatus : code ≠ statusCode)
    (hfetch : code ≠ fetchCode) :
    s.judgeOpen p (code :: body) =
      let t := s.setPort p { s.port p with transaction := .body, dataOut := List.replicate body.length 0#8 }
      if goodFrame (code :: body) then t.offer p (code :: body) else t.frameError p := by
  rcases h with h | h <;> simp only [State.judgeOpen, h, State.judge, if_neg hstatus, if_neg hfetch]

theorem goodFrame_cons {code : Byte} {body : List Byte} :
    goodFrame (code :: body) = true ↔ bodyLength code = some body.length := by
  simp only [goodFrame, decide_eq_true_eq]

theorem State.offer_of_empty {frame : List Byte} (h : (s.port p).slot = .empty) :
    s.offer p frame = s.takeRequest p frame := by simp only [State.offer, h]

theorem State.offer_of_used {frame : List Byte} (h : (s.port p).slot ≠ .empty) :
    s.offer p frame = s.rejectRequest p := by
  unfold State.offer
  split
  · next he => exact absurd he h
  · rfl
  · rfl

end TransactionEnd

/-- Settles O8: the branches of the judgement, and what serving the bytes first leaves. -/
theorem transactionEndJudges : Obligations.TransactionEndJudges := by
  refine ⟨fun s p hrun hsel => ⟨fun code body hopen hstatus hfetch => ?_, ?_, fun body t hcode => ⟨fun h => ?_, fun h => ?_⟩,
    fun bytes rest t => ⟨fun reported hshift h => ?_, fun ready hshift h => ?_⟩, fun bytes hlocked => ?_⟩,
    fun s p bytes => ⟨fun hstop hsel => ?_, fun hsel => ?_⟩⟩
  · intro q
    have hbody (t : State) (x : PortState) (hx : t = s.setPort p x) :
        t.deselect p = s.setPort p { x with selected := false, transaction := .idle } := by
      subst hx
      rw [State.deselect, State.port_setPort_self, State.setPort_setPort]
    rw [exec_transactionEnd_of_run hrun hsel, State.judgeOpen_frame hopen hstatus hfetch]
    refine ⟨fun hgood hempty => ?_, fun hgood hused => ?_, fun hbad => ?_⟩
    · simp only [if_pos (goodFrame_cons.2 hgood)]
      rw [State.offer_of_empty (by rw [State.port_setPort_self]; exact hempty), State.takeRequest,
        State.port_setPort_self, State.setPort_setPort, hbody _ _ rfl]
      rfl
    · simp only [if_pos (goodFrame_cons.2 hgood)]
      rw [State.offer_of_used (by rw [State.port_setPort_self]; exact hused), State.rejectRequest,
        State.port_setPort_self, State.setPort_setPort, hbody _ _ rfl]
      rfl
    · simp only [if_neg (mt goodFrame_cons.1 hbad)]
      rw [State.frameError, State.port_setPort_self, State.setPort_setPort, hbody _ _ rfl]
      rfl
  · rw [exec_transactionEnd_of_run hrun hsel, State.judgeOpen_nil]
    rfl
  · rw [exec_status_of_run hrun, State.clockStatus_of_code hcode, Host.Outcome.next.injEq] at h
    refine exec_transactionEnd_of_served hrun hsel ?_ h.symm ?_
    · rw [← h, State.judgeOpen, hcode]
      simp only [State.judge, if_true]
    · rw [PortState.clockOut_selected]
      exact hsel
  · rw [exec_fetch_of_run hrun, Host.Outcome.next.injEq] at h
    refine exec_transactionEnd_of_served hrun hsel ?_ (h.symm.trans (State.clockFetch_of_code hcode _)) ?_
    · rw [← h, State.judgeOpen, hcode, State.clockFetch_of_code hcode]
      simp only [State.judge, State.serveFetch, if_neg (by decide : fetchCode ≠ statusCode), if_true]
    · rw [PortState.clockOut_selected]
      exact hsel
  · rw [exec_status_of_run hrun, Host.Outcome.next.injEq] at h
    refine exec_transactionEnd_of_served hrun hsel ?_ (h.symm.trans (State.clockStatus_of_shiftOut hshift _)) ?_
    · rw [← h, State.judgeOpen, hshift, State.clockStatus_of_shiftOut hshift]
    · rw [PortState.clockOut_selected]
      exact hsel
  · rw [exec_fetch_of_run hrun, Host.Outcome.next.injEq] at h
    refine exec_transactionEnd_of_served hrun hsel ?_ (h.symm.trans (State.clockFetch_of_shiftOut hshift _)) ?_
    · rw [← h, State.judgeOpen, hshift, State.clockFetch_of_shiftOut hshift]
    · rw [PortState.clockOut_selected]
      exact hsel
  · rw [exec_transactionEnd_of_run hrun hsel, State.judgeOpen, hlocked]
    rfl
  · refine congrArg Host.Outcome.next ?_
    rw [hsel, if_neg (by decide), if_neg (by rw [hstop]; exact Bool.false_ne_true)]
    rfl
  · refine congrArg Host.Outcome.next ?_
    rw [hsel, if_pos (by decide)]

/-! ## What a port shows (R166 to R170, R173) -/

theorem bit_getLsbD (b : Bool) {i : Nat} (hi : i < 8) (j : Nat) : (bit b i).getLsbD j = (b && decide (j = i)) := by
  cases b with
  | false => simp [bit]
  | true =>
    rw [bit, if_pos rfl, BitVec.getLsbD_shiftLeft, BitVec.getLsbD_one, Bool.true_and]
    by_cases hj : j = i
    · subst hj
      simp [hi]
    · simp only [hj, decide_false]
      rcases Nat.lt_or_gt_of_ne hj with h | h
      · simp [h]
      · have : j - i ≠ 0 := by omega
        simp [this]

theorem Faults.noticeCount_pos {f : Faults} {p : Port} : 0 < f.noticeCount p ↔ ∃ i, f.noticeAt p i = true := by
  rw [Faults.noticeCount, List.length_pos_iff_exists_mem]
  simp

theorem PortState.replyReady_iff {q : PortState} : q.replyReady = true ↔ ∃ r data fetched, q.reply = .ready r data fetched := by
  unfold PortState.replyReady
  cases q.reply <;> simp

theorem PortState.replyWaiting_iff {q : PortState} : q.replyWaiting = true ↔ ∃ r data, q.reply = .ready r data false := by
  unfold PortState.replyWaiting
  cases q.reply <;> simp

/-- Settles O12: the flags bit by bit, the attention sources, the extended bytes and the data-out line. -/
theorem portOutputs : Obligations.PortOutputs := by
  intro s p q noticed noticeSource replySource statementSource x a
  have hnotice : (decide (0 < s.faults.noticeCount p) || s.faults.overflow.get p) = true ↔ noticeSource := by
    rw [Bool.or_eq_true, decide_eq_true_eq, Faults.noticeCount_pos]
  have hreply : (s.ports.get p).replyWaiting = true ↔ replySource := PortState.replyWaiting_iff
  have hstatement : (decide (p = .billing) && !s.queue.isEmpty) = true ↔ statementSource := by
    simp [statementSource]
  refine ⟨?status, ?byte, ?attention, ?extended, ?off, ?on⟩
  case status =>
    have hx (i : Nat) : x.getLsbD i =
        ((decide (0 < s.faults.noticeCount p) && decide (i = 7)) || (s.faults.overflow.get p && decide (i = 6)) ||
          (q.replyReady && decide (i = 5)) || (decide (q.reply = .pending) && decide (i = 4)) ||
          (q.reject && decide (i = 3)) || (q.frame && decide (i = 2)) || (s.settleInFlight && decide (i = 1)) ||
          (decide (s.clock.store = .blank) && decide (i = 0))) := by
      simp only [x, State.statusByteOf, BitVec.getLsbD_or, bit_getLsbD _ (by decide : 7 < 8),
        bit_getLsbD _ (by decide : 6 < 8), bit_getLsbD _ (by decide : 5 < 8), bit_getLsbD _ (by decide : 4 < 8),
        bit_getLsbD _ (by decide : 3 < 8), bit_getLsbD _ (by decide : 2 < 8), bit_getLsbD _ (by decide : 1 < 8),
        bit_getLsbD _ (by decide : 0 < 8)]
      rfl
    refine ⟨?_, ?_, ?_, ?_, ?_, ?_, ?_, ?_⟩ <;> rw [hx]
    · simp [noticed, Faults.noticeCount_pos]
    · simp
    · simp [PortState.replyReady_iff]
    · simp
    · simp
    · simp
    · simp [State.settleInFlight_eq_true]
    · simp
  case byte =>
    have ha (i : Nat) : a.getLsbD i =
        (((decide (0 < s.faults.noticeCount p) || s.faults.overflow.get p) && decide (i = 7)) ||
          ((s.ports.get p).replyWaiting && decide (i = 6)) || (q.settled && decide (i = 5)) ||
          ((decide (p = .billing) && !s.queue.isEmpty) && decide (i = 4)) ||
          (q.enables.notice && decide (i = 3)) || (q.enables.reply && decide (i = 2)) ||
          (q.enables.settled && decide (i = 1)) || (q.enables.statement && decide (i = 0))) := by
      simp only [a, State.attentionByte, BitVec.getLsbD_or, bit_getLsbD _ (by decide : 7 < 8),
        bit_getLsbD _ (by decide : 6 < 8), bit_getLsbD _ (by decide : 5 < 8), bit_getLsbD _ (by decide : 4 < 8),
        bit_getLsbD _ (by decide : 3 < 8), bit_getLsbD _ (by decide : 2 < 8), bit_getLsbD _ (by decide : 1 < 8),
        bit_getLsbD _ (by decide : 0 < 8)]
      rfl
    refine ⟨?_, ?_, ?_, ?_, ?_, ?_, ?_, ?_⟩ <;> rw [ha]
    · simpa using hnotice
    · simpa using hreply
    · simp
    · simpa using hstatement
    · simp
    · simp
    · simp
    · simp
  case attention =>
    have hattention : s.attention p = (s.interfacesRun &&
        ((decide (0 < s.faults.noticeCount p) || s.faults.overflow.get p) && q.enables.notice ||
          (s.ports.get p).replyWaiting && q.enables.reply || q.settled && q.enables.settled ||
          (decide (p = .billing) && !s.queue.isEmpty) && q.enables.statement)) := rfl
    rw [hattention, Bool.and_eq_true, Bool.or_eq_true, Bool.or_eq_true, Bool.or_eq_true, Bool.and_eq_true,
      Bool.and_eq_true, Bool.and_eq_true, Bool.and_eq_true, hnotice, hreply, hstatement, or_assoc, or_assoc]
  case extended =>
    refine ⟨s.settle.code, s.clock.store.code, s.supervisor.supply.code ||| bit s.supervisor.backupLow 7,
      bit q.settled 0 ||| bit s.clock.tickLoss 1 ||| bit s.clock.deferred 2 ||| bit s.stagedClose 3, rfl, ?_, ?_, ?_, ?_⟩
    · cases s.settle <;> rfl
    · cases s.clock.store <;> rfl
    · cases s.supervisor.supply <;> cases s.supervisor.backupLow <;> rfl
    · have hc (i : Nat) : (bit q.settled 0 ||| bit s.clock.tickLoss 1 ||| bit s.clock.deferred 2 |||
          bit s.stagedClose 3).getLsbD i = ((q.settled && decide (i = 0)) || (s.clock.tickLoss && decide (i = 1)) ||
            (s.clock.deferred && decide (i = 2)) || (s.stagedClose && decide (i = 3))) := by
        simp only [BitVec.getLsbD_or, bit_getLsbD _ (by decide : 3 < 8), bit_getLsbD _ (by decide : 2 < 8),
          bit_getLsbD _ (by decide : 1 < 8), bit_getLsbD _ (by decide : 0 < 8)]
      refine ⟨fun i hi => ?_, ?_, ?_, ?_, ?_⟩ <;> rw [hc]
      · have h0 : i ≠ 0 := by omega
        have h1 : i ≠ 1 := by omega
        have h2 : i ≠ 2 := by omega
        have h3 : i ≠ 3 := by omega
        simp [h0, h1, h2, h3]
      · simp
      · simp
      · simp
      · simp
  case off =>
    rintro (hstop | hsel)
    · simp only [State.dataLine, hstop, Bool.not_false, Bool.true_or, if_true]
    · have hsel' : (s.ports.get p).selected = false := hsel
      simp only [State.dataLine, hsel', Bool.not_false, Bool.or_true, if_true]
  case on =>
    intro hrun hsel hopen
    have hsel' : (s.ports.get p).selected = true := hsel
    simp only [State.dataLine, hrun, hsel', Bool.not_true, Bool.or_false, Bool.false_eq_true, if_false]
    exact if_neg hopen

end Sys2Proof.Machine
end

section
/-!
PROOF. What a command leaves of the arbiter, the supervisor, the capture queue and the request slots: the Store Arbiter's
choice (O13) and the ranges with the quiet interfaces (O56).
-/

namespace Sys2Proof.Machine

/-! ## Who waits, and the choice (R143, R144) -/

section Arbiter

variable {s : State}

theorem State.waiting_drain_iff : s.waiting .drain = true ↔ s.interfacesRun = true ∧
    (s.capture ≠ [] ∨ ∃ m h, (s.meter m).held = some h ∧ s.holdActive m h.account = false) := by
  have hdue (m : SlotNo) : s.heldDue m = true ↔ ∃ h, (s.meter m).held = some h ∧ s.holdActive m h.account = false := by
    unfold State.heldDue
    cases (s.meter m).held with
    | none => simp
    | some h => simp
  simp [State.waiting, State.anyHeldDue, hdue]

theorem State.waiting_settle_iff : s.waiting .settle = true ↔ s.interfacesRun = true ∧ s.settle ≠ .idle := by
  rw [State.waiting, Bool.and_eq_true, State.settleInFlight_eq_true]

theorem State.requestWaiting_iff {p : Port} : s.requestWaiting p = true ↔ (s.port p).slot = .preparing ∨
    ∃ frame, (s.port p).slot = .request frame ∧ ownerAllows p frame = true := by
  unfold State.requestWaiting
  cases (s.port p).slot <;> simp

theorem State.waiting_port_iff {p : Port} : s.waiting (.port p) = true ↔ s.interfacesRun = true ∧
    ((s.port p).framePending = true ∨ (s.port p).slot = .preparing ∨
      ∃ frame, (s.port p).slot = .request frame ∧ ownerAllows p frame = true) := by
  rw [State.waiting, Bool.and_eq_true, Bool.or_eq_true, State.requestWaiting_iff, or_comm]

theorem State.waiting_of_stopped (h : s.interfacesRun = false) (r : Requester) : s.waiting r = false := by
  cases r <;> simp only [State.waiting, h, Bool.false_and]

theorem State.deferredDue_iff : s.deferredDue = true ↔
    s.clock.store = .running ∧ s.clock.deferred = true ∧ s.settle = .idle := by
  rw [State.deferredDue, Bool.and_eq_true, Bool.and_eq_true, decide_eq_true_eq, Bool.not_eq_true',
    State.settleInFlight_eq_false, and_assoc]

theorem State.yielding_iff : s.yielding = true ↔ ∃ r ∈ s.arbiter.yieldSet, s.waiting r = true := by
  rw [State.yielding, List.any_eq_true]

theorem State.nextGrant_of_stopped (h : s.interfacesRun = false) : s.nextGrant = none := by
  simp only [State.nextGrant, State.portEligible, State.waiting_of_stopped h, Bool.false_eq_true, Bool.false_and,
    if_false, ite_self]

theorem State.nextGrant_of_busy (h : s.arbiter.granted ≠ none ∨ s.deferredDue = true) : s.nextGrant = none := by
  have hbusy : (s.arbiter.granted.isSome || s.deferredDue) = true := by
    rw [Bool.or_eq_true, Option.isSome_iff_ne_none]
    exact h
  rw [State.nextGrant, if_pos hbusy]

section Free

variable (hfree : s.arbiter.granted = none) (hdue : s.deferredDue = false)

include hfree hdue

theorem State.nextGrant_of_drain (h : s.waiting .drain = true) : s.nextGrant = some .drain := by
  simp only [State.nextGrant, hfree, hdue, h, Option.isSome_none, Bool.or_self, Bool.false_eq_true, if_false, if_true]

theorem State.nextGrant_of_settle (hdrain : ¬ s.waiting .drain = true) (h : s.waiting .settle = true)
    (hyield : ¬ s.yielding = true) : s.nextGrant = some .settle := by
  rw [Bool.not_eq_true] at hdrain hyield
  simp only [State.nextGrant, hfree, hdue, h, hdrain, hyield, Option.isSome_none, Bool.or_self, Bool.false_eq_true,
    if_false, Bool.not_false, Bool.and_self, if_true]

/-- With the drain and the Settle Engine out of the choice, the ports are left. -/
theorem State.nextGrant_of_ports (hdrain : ¬ s.waiting .drain = true)
    (hsettle : ¬ s.waiting .settle = true ∨ s.yielding = true) : s.nextGrant =
      if s.portEligible .plant then some (.port .plant)
      else if s.portEligible .billing then some (.port .billing) else none := by
  have hno : ¬ (s.waiting .settle && !s.yielding) = true := by
    rw [Bool.and_eq_true, Bool.not_eq_true']
    rintro ⟨hw, hy⟩
    rcases hsettle with h | h
    · exact h hw
    · rw [hy] at h
      cases h
  rw [State.nextGrant, hfree, hdue, if_neg (by simp), if_neg hdrain, if_neg hno]

end Free

end Arbiter

/-! ## What a request's or an engine's work leaves outside the store -/

/-- The arbiter and the supervisor are as they were, no capture entry joins, and a slot in use has PENDING still. -/
structure State.Works (s t : State) : Prop where
  arbiter : t.arbiter = s.arbiter
  supervisor : t.supervisor = s.supervisor
  capture : t.capture.length ≤ s.capture.length
  replies : s.repliesPend → t.repliesPend

theorem State.Works.refl (s : State) : s.Works s := ⟨rfl, rfl, Nat.le_refl _, id⟩

theorem State.Works.trans {s t u : State} (h : s.Works t) (h' : t.Works u) : s.Works u :=
  ⟨h'.arbiter.trans h.arbiter, h'.supervisor.trans h.supervisor, Nat.le_trans h'.capture h.capture, h'.replies ∘ h.replies⟩

/-- A write that leaves the ports, the arbiter, the supervisor and the capture queue. -/
theorem State.Works.of_same {s t : State} (ports : t.ports = s.ports) (arbiter : t.arbiter = s.arbiter)
    (supervisor : t.supervisor = s.supervisor) (capture : t.capture = s.capture) : s.Works t := by
  refine ⟨arbiter, supervisor, Nat.le_of_eq (congrArg List.length capture), fun h p => ?_⟩
  have hp : t.port p = s.port p := by rw [State.port, ports]; rfl
  rw [hp]
  exact h p

/-- One port written whose slot is empty, or in use with PENDING where it was so before. -/
theorem State.Works.setPort {s : State} {p : Port} {q : PortState}
    (h : ((s.port p).slot ≠ .empty → (s.port p).reply = .pending) → q.slot ≠ .empty → q.reply = .pending) :
    s.Works (s.setPort p q) := by
  refine ⟨rfl, rfl, Nat.le_refl _, fun hs r => ?_⟩
  have hget : (s.setPort p q).port r = if p = r then q else s.port r := PerPort.get_set _ _ _ _
  rw [hget]
  split
  · exact h (hs p)
  · exact hs r

/-- One port written with its slot and its reply buffer as they were. -/
theorem State.Works.setPort_same (s : State) (p : Port) {q : PortState} (hslot : q.slot = (s.port p).slot)
    (hreply : q.reply = (s.port p).reply) : s.Works (s.setPort p q) :=
  .setPort fun h hq => hreply.trans (h (hslot ▸ hq))

theorem StoreOp.works {s t : State} (h : StoreOp s t) : s.Works t := by
  cases h with
  | port p stream enables => exact .setPort_same s p (by rfl) (by rfl)
  | detach m k =>
    obtain ⟨_, _, h, -⟩ := s.dropAssignment_fields m
    rw [h]
    exact .of_same rfl rfl rfl rfl
  | assign m g =>
    obtain ⟨_, _, h, -⟩ := s.placeMeter_fields m (s.meter m).service g
    rw [h]
    exact .of_same rfl rfl rfl rfl
  | boundary elapsed =>
    rw [State.boundary_eq]
    exact .of_same rfl rfl rfl rfl
  | alignment elapsed =>
    rw [State.alignmentBoundary_eq]
    exact .of_same rfl rfl rfl rfl
  | takeStatement x rest =>
    obtain ⟨_, h⟩ := State.releaseStatement_fields { s with queue := rest } x
    rw [h]
    exact .of_same rfl rfl rfl rfl
  | computeRead b rs h =>
    rw [State.computeRead_eq h]
    exact .of_same rfl rfl rfl rfl
  | visit b r a done h =>
    obtain ⟨_, _, hv⟩ := s.visitAccount_fields b a
    rw [hv]
    exact .of_same rfl rfl rfl rfl
  | periodStep b r next done h =>
    rw [State.periodStep_eq h]
    exact .of_same rfl rfl rfl rfl
  | summary b r next done h =>
    rw [State.summaryWrite_eq h]
    refine ⟨rfl, rfl, Nat.le_refl _, fun hs p => ?_⟩
    cases p with
    | plant => exact hs .plant
    | billing => exact hs .billing
  | _ => exact .of_same rfl rfl rfl rfl

theorem Stores.works {s t : State} (h : Stores s t) : s.Works t := by
  induction h with
  | refl => exact .refl s
  | tail _ hop ih => exact ih.trans hop.works

theorem State.Works.prepareRecord (s : State) (p : Port) : s.Works (s.prepareRecord p) := by
  unfold State.prepareRecord
  split
  · exact .refl s
  · exact .setPort fun _ h => absurd rfl h

theorem State.Works.drainHead (s : State) : s.Works s.drainHead := by
  unfold State.drainHead
  split
  · exact .refl s
  · next e rest hcapture =>
    have h := (Stores.drainEntry s e).works
    refine ⟨h.arbiter, h.supervisor, ?_, h.replies⟩
    rw [hcapture]
    exact Nat.le_succ _

/-! ## What a command leaves outside the store -/

/-- The laws of what is outside the store: FREE, at most two capture entries, PENDING while a slot is in use. -/
def State.outerLaws (s : State) : Prop :=
  s.arbiter.granted = none ∧ s.capture.length ≤ 2 ∧ s.repliesPend

/-- The supervisor stays, the laws are kept, and the yield set grows only where `P` allows, by requesters that wait. -/
structure State.Passes (P : Prop) (s t : State) : Prop where
  supervisor : t.supervisor = s.supervisor
  laws : s.outerLaws → t.outerLaws
  yields : ∀ r ∈ t.arbiter.yieldSet, r ∈ s.arbiter.yieldSet ∨ (P ∧ t.waiting r = true)

section Passes

variable {P : Prop} {s t : State} {p : Port}

theorem State.Works.passes (h : s.Works t) : s.Passes P t where
  supervisor := h.supervisor
  laws := fun ⟨hfree, hcapture, hpend⟩ =>
    ⟨h.arbiter ▸ hfree, Nat.le_trans h.capture hcapture, h.replies hpend⟩
  yields := fun _ hr => .inl (h.arbiter ▸ hr)

theorem State.Passes.refl (s : State) : s.Passes P s := (State.Works.refl s).passes

/-- What a grant's begin leaves outside the store, the arbiter apart. -/
theorem State.openGrant_works (s : State) (r : Requester) :
    State.Works { s with arbiter := (s.openGrant r).arbiter } (s.openGrant r) := by
  have raised (u : State) (k : Nat) (c : FaultClass) (sub : Subject) (n : Nat) :
      (u.raiseTimes k c sub n).ports = u.ports ∧ (u.raiseTimes k c sub n).capture = u.capture ∧
        (u.raiseTimes k c sub n).supervisor = u.supervisor := by
    induction k generalizing u with
    | zero => exact ⟨rfl, rfl, rfl⟩
    | succ k ih => exact ih (u.raise c sub n)
  cases r with
  | drain =>
    obtain ⟨hports, hcapture, hsupervisor⟩ := raised (s.beginGrant .drain) s.overruns .lineOverrun .line s.clock.interval
    exact .of_same hports rfl hsupervisor hcapture
  | settle => exact .of_same rfl rfl rfl rfl
  | port p =>
    rw [State.openGrant_port]
    have h := State.Works.setPort_same { s with arbiter := (s.beginGrant (.port p)).arbiter } p
      (q := { s.port p with framePending := false }) rfl rfl
    exact ⟨rfl, rfl, Nat.le_refl _, h.replies⟩

theorem State.openGrant_arbiter (s : State) (r : Requester) : (s.openGrant r).arbiter = (s.beginGrant r).arbiter := by
  have raised (u : State) (k : Nat) (c : FaultClass) (sub : Subject) (n : Nat) :
      (u.raiseTimes k c sub n).arbiter = u.arbiter := by
    induction k generalizing u with
    | zero => rfl
    | succ k ih => exact ih (u.raise c sub n)
  cases r with
  | drain => exact raised (s.beginGrant .drain) _ _ _ _
  | settle => rfl
  | port p => rw [State.openGrant_port]

/-- The end of a grant leaves what waits as it is, and the yield set is then the settle's waiting requesters, or no more than
it was. -/
theorem State.endGrant_waiting (s : State) (r q : Requester) : (s.endGrant r).waiting q = s.waiting q := by
  cases q <;> rfl

theorem State.endGrant_granted (s : State) (r : Requester) : (s.endGrant r).arbiter.granted = none := by
  cases r <;> rfl

theorem State.endGrant_yieldSet {s : State} {r : Requester} (hr : r ≠ .settle) :
    (s.endGrant r).arbiter.yieldSet = s.arbiter.yieldSet := by
  cases r with
  | settle => exact absurd rfl hr
  | drain => rfl
  | port p => rfl

/-- The whole of a granted operation whose work keeps what is outside the store. -/
theorem State.endGrant_passes {r : Requester} {u v : State} (hu : State.Works { s with arbiter := u.arbiter } u)
    (hyield : u.arbiter.yieldSet = s.arbiter.yieldSet.filter fun q => decide (q ≠ r)) (hv : u.Works v)
    (hsettle : r = .settle → P) : s.Passes P (v.endGrant r) where
  supervisor := hv.supervisor.trans hu.supervisor
  laws := fun ⟨_, hcapture, hpend⟩ =>
    ⟨v.endGrant_granted r, Nat.le_trans (Nat.le_trans hv.capture hu.capture) hcapture, hv.replies (hu.replies hpend)⟩
  yields := fun q hq => by
    rw [State.endGrant_waiting]
    by_cases hr : r = .settle
    · subst hr
      exact .inr ⟨hsettle rfl, (List.mem_filter.1 hq).2⟩
    · rw [State.endGrant_yieldSet hr, hv.arbiter, hyield] at hq
      exact .inl (List.mem_filter.1 hq).1

theorem State.operation_passes {r : Requester} {enabled : Bool} {work : State → State}
    (hwork : enabled = true → (s.openGrant r).Works (work (s.openGrant r))) (hsettle : r = .settle → P) :
    s.Passes P (s.operation r enabled work) := by
  unfold State.operation
  split
  · next h =>
    rw [Bool.and_eq_true] at h
    exact State.endGrant_passes (s.openGrant_works r) (by rw [State.openGrant_arbiter]; rfl) (hwork h.1) hsettle
  · exact .refl s

theorem State.takeRequest_works (s : State) (p : Port) (frame : List Byte) : s.Works (s.takeRequest p frame) :=
  .setPort fun _ _ => rfl

theorem State.arrived_works (s : State) (p : Port) (frame : List Byte) : s.Works (s.arrived p frame) := by
  unfold State.arrived
  split
  · exact .refl s
  · exact s.takeRequest_works p frame
  · exact .setPort_same s p (by rfl) (by rfl)
  · exact .refl s

theorem State.complete_works (s : State) (p : Port) (r : Result) (data : List Byte) : s.Works (s.complete p r data) :=
  .setPort fun _ h => absurd rfl h

theorem State.started_works (s : State) (p : Port) (frame : List Byte) :
    State.Works { s with arbiter := (s.started p frame).arbiter } (s.started p frame) := by
  have h := (s.arrived p frame).openGrant_works (.port p)
  have ha := s.arrived_works p frame
  exact ⟨rfl, h.supervisor.trans ha.supervisor, Nat.le_trans h.capture ha.capture, fun hs => h.replies (ha.replies hs)⟩

theorem State.serve_passes {frame : List Byte} {work : State → Answer} (hwork : ∀ u, Stores u (work u).state) :
    s.Passes P (s.serve p frame work) := by
  have carried : s.Passes P ((work (s.started p frame)).close p) := by
    refine State.endGrant_passes (s.started_works p frame) ?_ ((hwork _).works.trans (State.complete_works _ p _ _))
      (fun h => nomatch h)
    rw [State.started, State.openGrant_arbiter, State.beginGrant, (s.arrived_works p frame).arbiter]
  unfold State.serve
  split
  · exact .refl s
  · exact State.Works.passes (State.Works.setPort_same s p (by rfl) (by rfl))
  · split
    · exact (s.complete_works p _ _).passes
    · split
      · exact carried
      · exact .refl s
  · split
    · exact ((s.takeRequest_works p frame).trans (State.complete_works _ p _ _)).passes
    · split
      · exact carried
      · exact (s.arrived_works p frame).passes

/-- A new capture entry joins a queue with room, or is dropped. -/
theorem State.enqueue_passes (s : State) (e : CaptureEntry) (x : Receiver) : s.Passes P ((s.enqueue e).receive x) := by
  unfold State.enqueue
  split
  · next hroom =>
    refine ⟨rfl, fun ⟨hfree, _, hpend⟩ => ⟨hfree, ?_, hpend⟩, fun r hr => .inl hr⟩
    have hlength : (s.capture ++ [e]).length ≤ 2 := by
      rw [List.length_append]
      exact hroom
    exact hlength
  · exact ⟨rfl, id, fun r hr => .inl hr⟩

theorem State.receive_passes (s : State) (x : Receiver) : s.Passes P (s.receive x) :=
  ⟨rfl, id, fun _ hr => .inl hr⟩

end Passes

/-! ## Port commands -/

section Ports

variable {s : State} {p : Port}

/-- The effect of the last byte served leaves PENDING in the reply buffer of a slot in use. -/
theorem PortState.servedFull_pending (q : PortState) (serving : Serving)
    (h : q.slot ≠ .empty → q.reply = .pending) :
    (q.servedFull serving).slot ≠ .empty → (q.servedFull serving).reply = .pending := by
  cases serving with
  | status reported => exact h
  | fetch ready =>
    cases ready with
    | false => exact h
    | true =>
      unfold PortState.servedFull
      simp only
      split
      · next r data fetched hreply =>
        have hslot : q.slot = .empty := by
          refine Classical.byContradiction fun hne => ?_
          exact absurd (hreply.symm.trans (h hne)) (fun h => nomatch h)
        unfold PortState.fetchedFull
        split
        · exact fun hne => absurd hslot hne
        · split
          · exact fun hne => absurd hslot hne
          · exact fun _ => rfl
      · exact h
      · exact h

theorem PortState.clockOut_pending (q : PortState) (serving : Serving) (rest : List Byte) (n : Nat)
    (h : q.slot ≠ .empty → q.reply = .pending) :
    (q.clockOut serving rest n).slot ≠ .empty → (q.clockOut serving rest n).reply = .pending := by
  rw [PortState.clockOut_eq]
  simp only
  split
  · exact q.servedFull_pending serving h
  · exact h

theorem State.Works.clockOut (s : State) (p : Port) (out : List Byte) (serving : Serving) (rest : List Byte) (n : Nat) :
    s.Works (s.setPort p (PortState.clockOut { s.port p with dataOut := out } serving rest n)) :=
  .setPort fun h => PortState.clockOut_pending _ serving rest n h

theorem State.clockStatus_works (s : State) (p : Port) (n : Nat) : s.Works (s.clockStatus p n) := by
  unfold State.clockStatus
  split
  · exact .clockOut s p _ _ _ n
  · exact .clockOut s p _ _ _ n
  all_goals exact .refl s

theorem State.clockFetch_works (s : State) (p : Port) (n : Nat) : s.Works (s.clockFetch p n) := by
  unfold State.clockFetch
  split
  · exact .clockOut s p _ _ _ n
  · exact .clockOut s p _ _ _ n
  all_goals exact .refl s

theorem State.offer_works (s : State) (p : Port) (frame : List Byte) : s.Works (s.offer p frame) := by
  unfold State.offer
  split
  · exact s.takeRequest_works p frame
  · exact .setPort_same s p (by rfl) (by rfl)
  · exact .setPort_same s p (by rfl) (by rfl)

theorem State.judge_works (s : State) (p : Port) (bytes : List Byte) : s.Works (s.judge p bytes) := by
  unfold State.judge
  split
  · exact .refl s
  · split
    · exact .clockOut s p _ _ _ _
    · split
      · exact .clockOut s p _ _ _ _
      · next code body _ _ =>
        have opened : s.Works (s.setPort p { s.port p with
            transaction := .body, dataOut := List.replicate body.length 0#8 }) := .setPort_same s p (by rfl) (by rfl)
        simp only
        split
        · exact opened.trans (State.offer_works _ p _)
        · exact opened.trans (.setPort_same _ p (by rfl) (by rfl))

theorem State.judgeOpen_works (s : State) (p : Port) (bytes : List Byte) : s.Works (s.judgeOpen p bytes) := by
  unfold State.judgeOpen
  split
  · exact s.judge_works p bytes
  · exact s.judge_works p bytes
  · exact .clockOut s p _ _ _ _
  · exact .refl s
  · exact .refl s

end Ports

/-! ## Every command but the supply's -/

/-- The events at the Supply Supervisor. -/
def supplyEvent : Instr → Bool
  | .vmainFall => true
  | .vmainRise => true
  | .holdExit => true
  | .powerOnReset => true
  | .backupLowChange _ => true
  | .warmResetAssert => true
  | .warmResetRelease => true
  | .vmainFallBelowRunThreshold => true
  | _ => false

/-- The operations of the Settle Engine. -/
def settleSteps : List Instr := [.computeRead, .accountPost, .closeoutVisit, .periodStep, .summaryWrite]

theorem exec_passes {c : Instr} {s t : State} (hc : supplyEvent c = false) (h : exec c s = .next t) :
    s.Passes (c ∈ settleSteps) t := by
  cases c with
  | transactionStart p =>
    cases h
    split
    · exact .refl s
    · split
      · exact State.Works.passes (State.Works.setPort_same s p (by rfl) (by rfl))
      · exact State.Works.passes (State.Works.setPort_same s p (by rfl) (by rfl))
  | transactionEnd p bytes =>
    cases h
    split
    · exact .refl s
    · split
      · exact ((s.judgeOpen_works p bytes).trans (.setPort_same _ p (by rfl) (by rfl))).passes
      · exact State.Works.passes (State.Works.setPort_same s p (by rfl) (by rfl))
  | portFrameRaise p => cases h; exact State.operation_passes (fun _ => .refl _) (fun h => nomatch h)
  | status p n =>
    cases h
    split
    · exact (s.clockStatus_works p n).passes
    · exact .refl s
  | fetch p n =>
    cases h
    split
    · exact (s.clockFetch_works p n).passes
    · exact .refl s
  | streamRecordPrepare p =>
    cases h
    exact State.operation_passes (fun _ => .prepareRecord _ p) (fun h => nomatch h)
  | meterLineCharacter address data stopHigh =>
    cases h
    split
    · exact .refl s
    · split
      · unfold State.framingCharacter
        split
        · exact s.receive_passes _
        · exact s.receive_passes _
        · exact s.enqueue_passes _ _
      · split
        · unfold State.addressCharacter
          split
          · exact s.receive_passes _
          · exact s.receive_passes _
          · split
            · exact s.receive_passes _
            · exact s.enqueue_passes _ _
        · unfold State.dataCharacter
          split
          · exact .refl s
          · exact .refl s
          · simp only
            split
            · exact s.receive_passes _
            · split
              · exact s.enqueue_passes _ _
              · split
                · exact s.enqueue_passes _ _
                · exact s.receive_passes _
  | gapExpiry =>
    cases h
    split
    · exact .refl s
    · split
      · exact .refl s
      · exact s.receive_passes _
      · split
        · exact s.receive_passes _
        · exact s.enqueue_passes _ _
  | drainCaptureEntry => cases h; exact State.operation_passes (fun _ => .drainHead _) (fun h => nomatch h)
  | applyHeldDeltas slot =>
    cases h
    split
    · exact State.operation_passes (fun _ => (Stores.applyHeld _ _).works) (fun h => nomatch h)
    · exact .refl s
  | tickEdge levels =>
    cases h
    split
    · exact ((Stores.finishDeferred s).trans (.tick _ levels)).works.passes
    · exact .refl s
  | timerExpiry =>
    cases h
    split
    · exact ((Stores.useFree s 1).trans (.tick _ _)).works.passes
    · exact .refl s
  | deferredBoundary => cases h; exact (Stores.finishDeferred s).works.passes
  | tickLossTimeout =>
    cases h
    split
    · simp only
      split
      · exact (Stores.finishDeferred s).works.passes
      · exact ((Stores.finishDeferred s).trans (.beginTickLoss _)).works.passes
    · exact .refl s
  | computeRead =>
    cases h
    exact State.operation_passes (fun _ => (Stores.computeRead _).works) fun _ => by simp [settleSteps]
  | accountPost =>
    cases h
    exact State.operation_passes (fun _ => (Stores.accountPost _).works) fun _ => by simp [settleSteps]
  | closeoutVisit =>
    cases h
    exact State.operation_passes (fun henabled => (Stores.closeoutVisit (s := s.openGrant .settle) henabled).works)
      fun _ => by simp [settleSteps]
  | periodStep =>
    cases h
    exact State.operation_passes (fun _ => (Stores.periodStep _).works) fun _ => by simp [settleSteps]
  | summaryWrite =>
    cases h
    exact State.operation_passes (fun _ => (Stores.summaryWrite _).works) fun _ => by simp [settleSteps]
  | vmainFall | vmainRise | holdExit | powerOnReset | backupLowChange | warmResetAssert | warmResetRelease
  | vmainFallBelowRunThreshold => cases hc
  | _ =>
    rw [exec_request rfl (by simp [Instr.requestBytes]), Host.Outcome.next.injEq] at h
    exact h ▸ State.serve_passes (requestWork_stores _)

/-! ## The supply's events -/

/-- A restart writes the store, the ports' transactions, the receiver and the supervisor. -/
theorem State.restart_outer (s : State) : s.restart.arbiter = s.arbiter ∧ s.restart.capture = s.capture ∧
    ∀ p, (s.restart.port p).slot = (s.port p).slot ∧ (s.restart.port p).reply = (s.port p).reply := by
  have resumed (u : State) : u.resumeSettle = { u with settle := u.resumeSettle.settle } := by
    unfold State.resumeSettle
    split <;> rfl
  have raised (u : State) : u.raiseResumed = { u with faults := u.raiseResumed.faults } := by
    unfold State.raiseResumed
    split
    · split <;> rfl
    · rfl
  have times (u : State) (k : Nat) (c : FaultClass) (sub : Subject) (n : Nat) :
      u.raiseTimes k c sub n = { u with faults := (u.raiseTimes k c sub n).faults } := by
    induction k generalizing u with
    | zero => rfl
    | succ k ih => exact ih (u.raise c sub n)
  unfold State.restart
  simp only
  rw [resumed, raised, times]
  exact ⟨rfl, rfl, fun p => by cases p <;> exact ⟨rfl, rfl⟩⟩

/-- An event at the supervisor leaves the arbiter or clears it, and keeps the laws. -/
theorem exec_supply {c : Instr} {s t : State} (hc : supplyEvent c = true) (h : exec c s = .next t) :
    (t.arbiter = s.arbiter ∨ t.arbiter = Arbiter.initial) ∧ (s.outerLaws → t.outerLaws) := by
  have same (u : State) (v : Supervisor) (hu : s.outerLaws → u.outerLaws) (ha : u.arbiter = s.arbiter ∨ u.arbiter = Arbiter.initial) :
      ((u.setSupervisor v).arbiter = s.arbiter ∨ (u.setSupervisor v).arbiter = Arbiter.initial) ∧
        (s.outerLaws → (u.setSupervisor v).outerLaws) := ⟨ha, hu⟩
  have stopped : s.outerLaws → s.stopInterfaces.outerLaws := fun _ =>
    ⟨rfl, Nat.zero_le _, fun p hp => by cases p <;> exact absurd rfl hp⟩
  have restarted (u : State) (hu : s.outerLaws → u.outerLaws) (ha : u.arbiter = s.arbiter) :
      (u.restart.arbiter = s.arbiter ∨ u.restart.arbiter = Arbiter.initial) ∧ (s.outerLaws → u.restart.outerLaws) := by
    obtain ⟨harbiter, hcapture, hports⟩ := u.restart_outer
    refine ⟨.inl (harbiter.trans ha), fun hs => ?_⟩
    obtain ⟨hfree, hlength, hpend⟩ := hu hs
    refine ⟨by rw [harbiter]; exact hfree, by rw [hcapture]; exact hlength, fun p hp => ?_⟩
    rw [(hports p).2]
    exact hpend p ((hports p).1 ▸ hp)
  cases c with
  | vmainFall =>
    cases h
    unfold State.mainFall
    split
    · simp only
      split
      · exact same _ _ stopped (.inr rfl)
      · exact same _ _ id (.inl rfl)
    · exact same _ _ id (.inl rfl)
    · exact same _ _ id (.inl rfl)
  | vmainRise => cases h; exact same _ _ id (.inl rfl)
  | holdExit =>
    cases h
    split
    · unfold State.restartIfReleased
      split
      · exact restarted _ id rfl
      · exact same _ _ id (.inl rfl)
    · exact ⟨.inl rfl, id⟩
  | powerOnReset =>
    cases h
    split
    · exact ⟨.inr rfl, fun _ => ⟨rfl, Nat.zero_le _, fun p hp => by cases p <;> exact absurd rfl hp⟩⟩
    · exact ⟨.inl rfl, id⟩
  | backupLowChange low =>
    cases h
    split <;> exact same _ _ id (.inl rfl)
  | warmResetAssert =>
    cases h
    split
    · simp only
      split
      · exact same _ _ stopped (.inr rfl)
      · exact same _ _ id (.inl rfl)
    · exact ⟨.inl rfl, id⟩
  | warmResetRelease =>
    cases h
    split
    · exact ⟨.inl rfl, id⟩
    · simp only
      split
      · exact restarted _ id rfl
      · exact same _ _ id (.inl rfl)
  | vmainFallBelowRunThreshold => cases h; exact same _ _ id (.inl rfl)
  | _ => cases hc

theorem exec_yieldSet {c : Instr} {s t : State} (h : exec c s = .next t) :
    ∀ r ∈ t.arbiter.yieldSet, r ∈ s.arbiter.yieldSet ∨ (c ∈ settleSteps ∧ t.waiting r = true) := by
  cases hc : supplyEvent c with
  | false => exact (exec_passes hc h).yields
  | true =>
    intro r hr
    rcases (exec_supply hc h).1 with ha | ha
    · exact .inl (ha ▸ hr)
    · rw [ha] at hr
      cases hr

theorem exec_outerLaws {c : Instr} {s t : State} (h : exec c s = .next t) (hs : s.outerLaws) : t.outerLaws := by
  cases hc : supplyEvent c with
  | false => exact (exec_passes hc h).laws hs
  | true => exact (exec_supply hc h).2 hs

/-- Settles O13: the choice read off its tests, and the yield set's one source. -/
theorem arbiterGrants : Obligations.ArbiterGrants := by
  intro s w
  refine ⟨State.waiting_drain_iff, State.waiting_settle_iff, fun p => State.waiting_port_iff, fun h => ?_,
    fun hfree hdue => ⟨fun hd => State.nextGrant_of_drain hfree hdue hd, fun hd hs hy => ?_, fun hd hs => ?_⟩,
    fun c t h => exec_yieldSet h⟩
  · rcases h with h | h | h
    · exact State.nextGrant_of_busy (.inl h)
    · exact State.nextGrant_of_busy (.inr (State.deferredDue_iff.2 h))
    · exact State.nextGrant_of_stopped h
  · refine State.nextGrant_of_settle hfree hdue hd hs fun hyield => ?_
    obtain ⟨r, hr, hwr⟩ := State.yielding_iff.1 hyield
    exact hy r hr hwr
  · have hgrant := State.nextGrant_of_ports hfree hdue hd (hs.imp id State.yielding_iff.2)
    rw [hgrant]
    refine ⟨fun p hp ho => ?_, fun hp hb => ?_, fun hp hb => ?_⟩
    · rw [Bool.not_eq_true] at ho
      cases p with
      | plant =>
        have ho' : s.waiting (.port .billing) = false := ho
        have hp' : s.waiting (.port .plant) = true := hp
        simp [State.portEligible, Port.other, hp', ho']
      | billing =>
        have ho' : s.waiting (.port .plant) = false := ho
        have hp' : s.waiting (.port .billing) = true := hp
        simp [State.portEligible, Port.other, hp', ho']
    · have hp' : s.waiting (.port .plant) = true := hp
      have hb' : s.waiting (.port .billing) = true := hb
      by_cases hturn : s.arbiter.turn = some .billing
      · simp [State.portEligible, Port.other, hp', hb', hturn]
      · simp [State.portEligible, Port.other, hp', hb', hturn]
    · rw [Bool.not_eq_true] at hp hb
      have hp' : s.waiting (.port .plant) = false := hp
      have hb' : s.waiting (.port .billing) = false := hb
      simp [State.portEligible, hp', hb']

end Sys2Proof.Machine
end

section
/-!
PROOF. The ranges of the Interval Clock, the open-second counts and the quiet of stopped interfaces (O56).
-/

namespace Sys2Proof.Machine

/-! ## The clock and the open-second counts -/

/-- The ranges of the clock and of the open-second counts. -/
def State.clockLaws (s : State) : Prop := s.clock.inRange ∧ ∀ l, (s.lines.get l).count ≤ Config.openSecondsMax

theorem State.emptied_lines (s : State) (l : LineNo) : ((s.lines.map RuntimeLine.emptied).get l).count = 0 := by
  rw [Table.get_map]
  rfl

theorem Kept.clockLaws : Kept State.clockLaws where
  store s t h hs := by
    obtain ⟨hclock, hlines⟩ := hs
    cases h with
    | clock c _ _ h => exact ⟨h hclock, hlines⟩
    | lines ls h => exact ⟨hclock, fun l => h l (hlines l)⟩
    | initialise => exact ⟨Clock.initialised_inRange hclock, hlines⟩
    | boundary elapsed =>
      have hinterval : s.clock.interval ≤ 4294967295 := hclock.2.2.2.2.2.1
      rw [State.boundary_eq]
      refine ⟨Clock.begin_inRange hclock (nextInterval_le hinterval) _, fun l => ?_⟩
      exact Nat.le_trans (Nat.le_of_eq (State.emptied_lines s l)) (Nat.zero_le _)
    | alignment elapsed =>
      rw [State.alignmentBoundary_eq]
      refine ⟨Clock.begin_inRange hclock (n := 1) (by decide) _, fun l => ?_⟩
      exact Nat.le_trans (Nat.le_of_eq (State.emptied_lines s l)) (Nat.zero_le _)
    | detach m k =>
      obtain ⟨_, _, h, -⟩ := s.dropAssignment_fields m
      rw [h]
      exact ⟨hclock, hlines⟩
    | assign m g =>
      obtain ⟨_, _, h, -⟩ := s.placeMeter_fields m (s.meter m).service g
      rw [h]
      exact ⟨hclock, hlines⟩
    | takeStatement x rest =>
      obtain ⟨_, h⟩ := State.releaseStatement_fields { s with queue := rest } x
      rw [h]
      exact ⟨hclock, hlines⟩
    | computeRead b rs h =>
      rw [State.computeRead_eq h]
      exact ⟨hclock, hlines⟩
    | visit b r a done h =>
      obtain ⟨_, _, hv⟩ := s.visitAccount_fields b a
      rw [hv]
      exact ⟨hclock, hlines⟩
    | periodStep b r next done h =>
      rw [State.periodStep_eq h]
      exact ⟨hclock, hlines⟩
    | summary b r next done h =>
      rw [State.summaryWrite_eq h]
      exact ⟨hclock, hlines⟩
    | _ => exact ⟨hclock, hlines⟩
  outside _ _ _ _ _ _ _ _ hs := hs
  resume s hs := by
    unfold State.resumeSettle
    split <;> exact hs
  powerOn _ _ := by
    refine ⟨Clock.initial_inRange, fun l => ?_⟩
    have hline : (Table.fill 16 RuntimeLine.initial).get l = RuntimeLine.initial := Table.get_fill _ _
    exact Nat.le_trans (Nat.le_of_eq (congrArg RuntimeLine.count hline)) (Nat.zero_le _)

/-! ## Stopped interfaces -/

/-- What a port holds while the interfaces are stopped (R183). -/
def PortState.silent (q : PortState) : Prop :=
  q.slot = .empty ∧ q.reply = .empty ∧ q.stream = none ∧ q.reject = false ∧ q.frame = false ∧ q.settled = false ∧
    q.framePending = false ∧ q.transaction = .idle

/-- What the receiver, the capture queue, the line levels and the ports hold while the interfaces are stopped. -/
def State.silent (s : State) : Prop :=
  s.receiver = .idle ∧ s.capture = [] ∧ s.linePins = none ∧ ∀ p, (s.port p).silent

theorem State.quiet_iff {s : State} : s.quiet ↔ s.arbiter.granted = none ∧ (s.interfacesRun = false → s.silent) := Iff.rfl

theorem PortState.stop_silent (q : PortState) : q.stop.silent := ⟨rfl, rfl, rfl, rfl, rfl, rfl, rfl, rfl⟩

theorem State.stopInterfaces_silent (s : State) : s.stopInterfaces.silent :=
  ⟨rfl, rfl, rfl, fun p => by cases p <;> exact PortState.stop_silent _⟩

/-- The chip-select pin of a stopped port moves. -/
theorem State.silent_setSelected {s : State} (h : s.silent) (p : Port) (b : Bool) :
    (s.setPort p { s.port p with selected := b }).silent := by
  obtain ⟨hreceiver, hcapture, hpins, hports⟩ := h
  refine ⟨hreceiver, hcapture, hpins, fun r => ?_⟩
  have hget : (s.setPort p { s.port p with selected := b }).port r =
      if p = r then { s.port p with selected := b } else s.port r := PerPort.get_set _ _ _ _
  rw [hget]
  split
  · exact hports p
  · exact hports r

section Stopped

variable {s t : State}

theorem State.operation_of_stopped (h : s.interfacesRun = false) (r : Requester) (enabled : Bool) (work : State → State) :
    s.operation r enabled work = s := by
  unfold State.operation
  rw [State.nextGrant_of_stopped h]
  simp

theorem State.finishDeferred_of_stopped (h : s.interfacesRun = false) : s.finishDeferred = s := by
  simp [State.finishDeferred, h]

/-- While the interfaces are stopped, a command that is no event at the supervisor moves a chip-select pin at most. -/
theorem exec_silent {c : Instr} (hc : supplyEvent c = false) (hstop : s.interfacesRun = false) (h : exec c s = .next t)
    (hs : s.silent) : t.silent := by
  have unmoved {r : Requester} {enabled : Bool} {work : State → State} (h : s.operation r enabled work = t) : t.silent := by
    rw [State.operation_of_stopped hstop] at h
    exact h ▸ hs
  cases c with
  | transactionStart p =>
    cases h
    rw [hstop]
    split
    · exact hs
    · exact State.silent_setSelected hs p true
  | transactionEnd p bytes =>
    cases h
    rw [hstop]
    split
    · exact hs
    · exact State.silent_setSelected hs p false
  | portFrameRaise p => exact unmoved (Host.Outcome.next.inj h)
  | streamRecordPrepare p => exact unmoved (Host.Outcome.next.inj h)
  | drainCaptureEntry => exact unmoved (Host.Outcome.next.inj h)
  | computeRead => exact unmoved (Host.Outcome.next.inj h)
  | accountPost => exact unmoved (Host.Outcome.next.inj h)
  | closeoutVisit => exact unmoved (Host.Outcome.next.inj h)
  | periodStep => exact unmoved (Host.Outcome.next.inj h)
  | summaryWrite => exact unmoved (Host.Outcome.next.inj h)
  | applyHeldDeltas slot =>
    cases h
    split
    · rw [State.operation_of_stopped hstop]
      exact hs
    · exact hs
  | status p n => cases h; rw [hstop]; exact hs
  | fetch p n => cases h; rw [hstop]; exact hs
  | meterLineCharacter address data stopHigh => cases h; rw [hstop]; exact hs
  | gapExpiry => cases h; rw [hstop]; exact hs
  | tickEdge levels => cases h; rw [hstop]; exact hs
  | timerExpiry =>
    cases h
    rw [if_neg (by simp [State.expiresNext, State.ticksCount, hstop])]
    exact hs
  | deferredBoundary =>
    cases h
    rw [State.finishDeferred_of_stopped hstop]
    exact hs
  | tickLossTimeout => cases h; rw [hstop]; exact hs
  | vmainFall | vmainRise | holdExit | powerOnReset | backupLowChange | warmResetAssert | warmResetRelease
  | vmainFallBelowRunThreshold => cases hc
  | _ =>
    rw [exec_request rfl (by simp [Instr.requestBytes]), Host.Outcome.next.injEq] at h
    rw [State.serve_of_shut (by simp [State.intake, hstop])] at h
    exact h ▸ hs

end Stopped

/-! ## The supply's events -/

theorem State.interfacesRun_eq_false {s : State} :
    s.interfacesRun = false ↔ s.supervisor.supply ≠ .run ∨ s.supervisor.resetHigh = false := by
  rw [State.interfacesRun, Bool.and_eq_false_iff, decide_eq_false_iff_not]

/-- A restart leaves the supply and RESETn as they are. -/
theorem State.restart_interfacesRun (s : State) : s.restart.interfacesRun = s.interfacesRun := rfl

theorem exec_supply_silent {c : Instr} {s t : State} (hc : supplyEvent c = true) (h : exec c s = .next t)
    (hs : s.interfacesRun = false → s.silent) : t.interfacesRun = false → t.silent := by
  rw [State.interfacesRun_eq_false] at hs
  have off (hoff : s.supervisor.supply ≠ .run) (v : Supervisor) : (s.setSupervisor v).silent := hs (.inl hoff)
  have held (hlow : s.supervisor.resetHigh = false) (v : Supervisor) : (s.setSupervisor v).silent := hs (.inr hlow)
  have same (v : Supervisor) (hsupply : v.supply = s.supervisor.supply) (hreset : v.resetHigh = s.supervisor.resetHigh) :
      (s.setSupervisor v).interfacesRun = false → (s.setSupervisor v).silent := fun ht => by
    rw [State.interfacesRun_eq_false] at ht
    have ht' : v.supply ≠ .run ∨ v.resetHigh = false := ht
    rw [hsupply, hreset] at ht'
    exact hs ht'
  cases c with
  | vmainFall =>
    cases h
    unfold State.mainFall
    split
    · simp only
      split
      · exact fun _ => s.stopInterfaces_silent
      · next hreset => exact fun _ => held (Bool.not_eq_true _ ▸ hreset) _
    · next h => exact fun _ => off (fun hr => nomatch h.symm.trans hr) _
    · next h => exact fun _ => off (fun hr => nomatch h.symm.trans hr) _
  | vmainRise => cases h; exact same _ rfl rfl
  | vmainFallBelowRunThreshold => cases h; exact same _ rfl rfl
  | holdExit =>
    cases h
    split
    · next h =>
      unfold State.restartIfReleased
      split
      · next hreset =>
        rw [State.restart_interfacesRun]
        intro ht
        rw [State.interfacesRun_eq_false] at ht
        rcases ht with ht | ht
        · exact absurd rfl ht
        · exact absurd (hreset.symm.trans ht) (by decide)
      · exact fun _ => off (fun hr => nomatch h.1.symm.trans hr) _
    · rwa [← State.interfacesRun_eq_false] at hs
  | powerOnReset =>
    cases h
    split
    · intro ht
      rw [State.interfacesRun_eq_false] at ht
      have hlow : s.supervisor.resetHigh = false := ht.resolve_left (fun h => h rfl)
      have off (selected : Bool) : (PortState.powerOn selected s.supervisor.resetHigh).silent := by
        refine ⟨rfl, rfl, rfl, rfl, rfl, rfl, rfl, ?_⟩
        rw [hlow, PortState.powerOn, Bool.and_false, if_neg Bool.false_ne_true]
      exact ⟨rfl, rfl, rfl, fun p => by cases p <;> exact off _⟩
    · rwa [← State.interfacesRun_eq_false] at hs
  | backupLowChange low =>
    cases h
    split
    · next h => exact fun _ => off (fun hr => nomatch h.1.symm.trans hr) _
    · exact same _ rfl rfl
  | warmResetAssert =>
    cases h
    split
    · simp only
      split
      · exact fun _ => s.stopInterfaces_silent
      · next h => exact fun _ => off h _
    · rwa [← State.interfacesRun_eq_false] at hs
  | warmResetRelease =>
    cases h
    split
    · rwa [← State.interfacesRun_eq_false] at hs
    · simp only
      split
      · next h =>
        rw [State.restart_interfacesRun]
        intro ht
        rw [State.interfacesRun_eq_false] at ht
        rcases ht with ht | ht
        · exact absurd h ht
        · cases ht
      · next h => exact fun _ => off h _
  | _ => cases hc

theorem exec_quiet {c : Instr} {s t : State} (h : exec c s = .next t) (hs : s.interfacesRun = false → s.silent) :
    t.interfacesRun = false → t.silent := by
  cases hc : supplyEvent c with
  | false =>
    intro ht
    have hsupervisor := (exec_passes hc h).supervisor
    have hstop : s.interfacesRun = false := by rwa [State.interfacesRun, ← hsupervisor]
    exact exec_silent hc hstop h (hs hstop)
  | true => exact exec_supply_silent hc h hs

/-- Settles O56: the clock's laws by the induction over a step, the rest by what a command leaves outside the store. -/
theorem rangesKept : Obligations.RangesKept := by
  rintro s t ⟨hclock, ⟨hcapture, hlines⟩, ⟨hfree, hstop⟩, hpend⟩ h
  obtain ⟨hclock', hlines'⟩ := Kept.clockLaws.step (fun _ _ hs => hs) h ⟨hclock, hlines⟩
  have outer : t.outerLaws ∧ (t.interfacesRun = false → t.silent) := by
    unfold Machine.step at h
    split at h
    · cases h
      exact ⟨⟨hfree, hcapture, hpend⟩, hstop⟩
    · next c rest _ =>
      exact ⟨exec_outerLaws h ⟨hfree, hcapture, hpend⟩, exec_quiet h hstop⟩
  obtain ⟨⟨hfree', hcapture', hpend'⟩, hstop'⟩ := outer
  exact ⟨hclock', ⟨hcapture', hlines'⟩, ⟨hfree', hstop'⟩, hpend'⟩

end Sys2Proof.Machine
end

section
/-!
PROOF. The Fault Table's rules: what a raise and an end write (O14), and the first-notice pointer with the notice count (O59).
-/

namespace Sys2Proof.Machine

/-! ## The searches (R158) -/

section Searches

theorem position_add_sub (c i : Position) : c + (i - c) = i := by
  have h : ∀ c i : Fin 32, c + (i - c) = i := fun c i => by omega
  exact h c i

theorem position_add_sub_left (c i : Position) : c + i - c = i := by
  have h : ∀ c i : Fin 32, c + i - c = i := fun c i => by omega
  exact h c i

variable {f : Faults}

/-- The first free position from the cursor, counting upward. -/
theorem Faults.freePosition_eq_some {i : Position} (hfree : f.entries.get i = none)
    (hfirst : ∀ j, (j - f.cursor).val < (i - f.cursor).val → f.entries.get j ≠ none) : f.freePosition = some i := by
  have hlt : (i - f.cursor).val < ((List.finRange 32).map fun j => f.cursor + j).length := by
    rw [List.length_map, List.length_finRange]
    exact (i - f.cursor).isLt
  rw [Faults.freePosition, List.find?_eq_some_iff_getElem]
  refine ⟨by rw [hfree]; rfl, (i - f.cursor).val, hlt, ?_, fun k hk => ?_⟩
  · rw [List.getElem_map, List.getElem_finRange]
    exact position_add_sub f.cursor i
  · have hk32 : k < 32 := Nat.lt_trans hk (i - f.cursor).isLt
    have hnext := hfirst (f.cursor + ⟨k, hk32⟩) (by rwa [position_add_sub_left])
    rw [List.getElem_map, List.getElem_finRange]
    rw [Bool.not_eq_true', Option.isNone_eq_false_iff, Option.isSome_iff_ne_none]
    exact hnext

theorem Faults.freePosition_eq_none (h : ∀ i, f.entries.get i ≠ none) : f.freePosition = none := by
  rw [Faults.freePosition, List.find?_eq_none]
  intro i _
  rw [Option.isNone_iff_eq_none]
  exact h i

theorem Faults.holdsSeq_iff {k : Nat} : f.holdsSeq k = true ↔ ∃ i e, f.entries.get i = some e ∧ e.seq = k := by
  simp [Faults.holdsSeq, Option.any_eq_true]

/-- The first `a` sequence numbers from the counter on. -/
def Faults.seqsAhead (f : Faults) (a : Nat) : List Nat := (List.range a).map fun d => (f.counter + d) % 65536

/-- The sequence numbers by position, 0 standing at a free one. -/
def Faults.seqsHeld (f : Faults) : List Nat := (List.finRange 32).map fun i => (f.entries.get i).elim 0 FaultEntry.seq

/-- Thirty-two entries hold thirty-two numbers at most: the first free number from the counter is no further ahead. -/
theorem Faults.ahead_le {a : Nat} (ha : a ≤ 65536) (h : ∀ d, d < a → f.holdsSeq ((f.counter + d) % 65536) = true) :
    a ≤ 32 := by
  have hnodup : (f.seqsAhead a).Nodup := by
    refine List.pairwise_map.2 (List.pairwise_lt_range.imp_of_mem fun {d e} _ he hlt => ?_)
    have hea := List.mem_range.1 he
    omega
  have hsub : f.seqsAhead a ⊆ f.seqsHeld := by
    intro k hk
    obtain ⟨d, hd, rfl⟩ := List.mem_map.1 hk
    obtain ⟨i, e, he, hseq⟩ := Faults.holdsSeq_iff.1 (h d (List.mem_range.1 hd))
    exact List.mem_map.2 ⟨i, List.mem_finRange i, by rw [he, ← hseq]; rfl⟩
  have hle := hnodup.length_le_of_subset hsub
  rwa [Faults.seqsAhead, Faults.seqsHeld, List.length_map, List.length_map, List.length_range, List.length_finRange] at hle

/-- The sequence number of a new entry: the first from the counter that no entry holds. -/
theorem Faults.freshSeq_counter {k : Nat} (hcounter : f.counter < 65536) (hk : k < 65536) (hfree : f.holdsSeq k = false)
    (hfirst : ∀ j, j < 65536 → (j + 65536 - f.counter) % 65536 < (k + 65536 - f.counter) % 65536 → f.holdsSeq j = true) :
    f.freshSeq 32 f.counter = k := by
  refine Faults.freshSeq_eq hk hfree 32 f.counter hcounter ?_ hfirst
  refine Faults.ahead_le (f := f) (Nat.le_of_lt (Nat.mod_lt _ (by decide))) fun d hd => ?_
  refine hfirst _ (Nat.mod_lt _ (by decide)) ?_
  omega

end Searches

/-! ## Raises and ends (R157 to R160) -/

section Rules

variable {f : Faults} {c : FaultClass} {sub : Subject}

theorem FaultEntry.recur_eq (e : FaultEntry) (w : PerPort Bool) (n : Nat) : e.recur w n = { e with
    occurrences := min 255 (e.occurrences + 1), last := n, active := e.cls.isCondition
    notice := if e.cls.isCondition && e.active then e.notice
      else ⟨e.notice.plant || w.plant, e.notice.billing || w.billing⟩ } := by
  unfold FaultEntry.recur
  simp only [addSat_eq]
  split
  · next h =>
    obtain ⟨hcondition, hactive⟩ := Bool.and_eq_true_iff.1 h
    rw [hcondition, ← hactive]
  · rfl

theorem Faults.raise_of_find {i : Position} {e : FaultEntry} (h : f.find c sub = some i) (he : f.entries.get i = some e)
    (n : Nat) : f.raise c sub n = { f with entries := f.entries.set i (some (e.recur (f.wants c) n)) } := by
  rw [Faults.raise_recur h]
  simp only [Table.modify, he, Option.map_some]

theorem Faults.endCondition_of_find {i : Position} {e : FaultEntry} (h : f.find c sub = some i)
    (he : f.entries.get i = some e) : f.endCondition c sub = { f with
      entries := f.entries.set i (if e.active then { e with active := false }.kept else some e) } := by
  rw [Faults.endCondition, h]
  simp only [Table.modify, he, Option.bind_some]

theorem Faults.endCondition_of_inactive {i : Position} {e : FaultEntry} (h : f.find c sub = some i)
    (he : f.entries.get i = some e) (hactive : e.active = false) : f.endCondition c sub = f := by
  rw [Faults.endCondition_of_find h he, hactive, if_neg Bool.false_ne_true, ← he, Table.set_get]

theorem FaultEntry.kept_of_ended (e : FaultEntry) : { e with active := false }.kept =
    if e.notice.plant || e.notice.billing then some { e with active := false } else none := by
  rw [FaultEntry.kept, Bool.or_false]

theorem Faults.endCondition_of_none (h : f.find c sub = none) : f.endCondition c sub = f := by
  rw [Faults.endCondition, h]

theorem Faults.raise_of_masked (h : f.find c sub = none) (hmasked : (f.masked .plant c && f.masked .billing c) = true)
    (n : Nat) : f.raise c sub n = f := by
  rw [Faults.raise, h]
  exact if_pos hmasked

theorem Faults.raise_of_full (h : f.find c sub = none) (hheard : ¬ (f.masked .plant c && f.masked .billing c) = true)
    (hfull : f.freePosition = none) (n : Nat) : f.raise c sub n = { f with
      overflow := ⟨f.overflow.plant || (f.wants c).plant, f.overflow.billing || (f.wants c).billing⟩ } := by
  rw [Faults.raise, h]
  refine (if_neg hheard).trans ?_
  rw [hfull]
  rfl

theorem Faults.raise_of_free (h : f.find c sub = none) (hheard : ¬ (f.masked .plant c && f.masked .billing c) = true)
    {i : Position} (hfree : f.freePosition = some i) (n : Nat) : f.raise c sub n = f.insert i c sub n := by
  rw [Faults.raise, h]
  refine (if_neg hheard).trans ?_
  rw [hfree]

end Rules

/-- Settles O14: the search for the entry, and without one the searches for a position and a number. -/
theorem faultTableRules : Obligations.FaultTableRules := by
  intro f c sub n
  refine ⟨fun i e hunique he hc hs => ?_, fun hnone => ?_⟩
  · have hfind := Faults.find_eq_some hunique he hc hs
    refine ⟨?_, fun hactive => ?_, fun hactive => Faults.endCondition_of_inactive hfind he hactive⟩
    · rw [Faults.raise_of_find hfind he, FaultEntry.recur_eq, hc]
      rfl
    · rw [Faults.endCondition_of_find hfind he, if_pos hactive, FaultEntry.kept_of_ended]
  · have hfind := Faults.find_eq_none hnone
    have hmasked : (f.masked .plant c && f.masked .billing c) = true ↔
        ¬ ((!(f.mask.get .plant).getLsbD c.code.val) = true ∨ (!(f.mask.get .billing).getLsbD c.code.val) = true) := by
      simp [Faults.masked]
    refine ⟨Faults.endCondition_of_none hfind, fun hp hb => ?_, fun hheard => ⟨fun hfull => ?_, ?_⟩⟩
    · refine Faults.raise_of_masked hfind (hmasked.2 ?_) n
      exact fun hor => hor.elim (fun h => Bool.false_ne_true (hp.symm.trans h)) fun h => Bool.false_ne_true (hb.symm.trans h)
    · exact Faults.raise_of_full hfind (fun hm => hmasked.1 hm hheard) (Faults.freePosition_eq_none hfull) n
    · intro i k hcounter hfree hfirst hk hunheld hheld
      rw [Faults.raise_of_free hfind (fun hm => hmasked.1 hm hheard) (Faults.freePosition_eq_some hfree hfirst)]
      have hseq : f.freshSeq 32 f.counter = k := by
        refine Faults.freshSeq_counter hcounter hk ?_ fun j hj hahead => Faults.holdsSeq_iff.2 (hheld j hj hahead)
        rw [← Bool.not_eq_true, Faults.holdsSeq_iff]
        exact hunheld
      rw [Faults.insert, hseq]
      rfl

/-! ## Notices (R162) -/

section Notices

variable {f : Faults}

theorem length_filter_eq_sum {α : Type} (l : List α) (q : α → Bool) :
    (l.filter q).length = (l.map fun i => if q i = true then 1 else 0).sum := by
  induction l with
  | nil => rfl
  | cons a l ih =>
    rw [List.filter_cons, List.map_cons, List.sum_cons]
    split
    · rw [List.length_cons, ih, Nat.add_comm]
    · rw [ih, Nat.zero_add]

theorem Faults.behindAt_eq {i : Position} {e : FaultEntry} (h : f.entries.get i = some e) :
    f.behindAt i = f.behind e.seq := by
  simp only [Faults.behindAt, h]

/-- Folding `lower` over a list keeps the position furthest behind among the start and the list. -/
theorem Faults.foldl_lower (l : List Position) (j : Position) :
    ∃ i, l.foldl f.lower (some j) = some i ∧ (i = j ∨ i ∈ l) ∧ f.behindAt j ≤ f.behindAt i ∧
      ∀ k ∈ l, f.behindAt k ≤ f.behindAt i := by
  induction l generalizing j with
  | nil => exact ⟨j, rfl, .inl rfl, Nat.le_refl _, fun _ h => absurd h List.not_mem_nil⟩
  | cons a l ih =>
    have hstep : f.lower (some j) a = some (if f.behindAt j < f.behindAt a then a else j) := by
      simp only [Faults.lower]
      split <;> rfl
    obtain ⟨i, hi, hmem, hle, hall⟩ := ih (if f.behindAt j < f.behindAt a then a else j)
    refine ⟨i, by rw [List.foldl_cons, hstep]; exact hi, ?_, ?_, fun k hk => ?_⟩
    · split at hmem
      · exact .inr (hmem.elim (fun h => h ▸ List.mem_cons_self) (List.mem_cons_of_mem _))
      · exact hmem.imp id (List.mem_cons_of_mem _)
    · split at hle <;> omega
    · rcases List.mem_cons.1 hk with rfl | hk
      · split at hle <;> omega
      · exact hall k hk

theorem Faults.firstNotice_spec (p : Port) :
    (∀ i, f.firstNotice p = some i → f.noticeAt p i = true ∧ ∀ j, f.noticeAt p j = true → f.behindAt j ≤ f.behindAt i) ∧
      (f.firstNotice p = none ↔ ∀ i, f.noticeAt p i = false) := by
  have mem (i : Position) : (i ∈ (List.finRange 32).filter fun i => f.noticeAt p i) ↔ f.noticeAt p i = true := by
    rw [List.mem_filter]
    exact and_iff_right (List.mem_finRange i)
  unfold Faults.firstNotice
  cases hl : (List.finRange 32).filter fun i => f.noticeAt p i with
  | nil =>
    rw [hl] at mem
    refine ⟨fun _ h => (nomatch h), iff_of_true rfl fun i => ?_⟩
    rw [← Bool.not_eq_true, ← mem]
    exact List.not_mem_nil
  | cons a l =>
    rw [hl] at mem
    obtain ⟨i, hi, hmem, hle, hall⟩ := f.foldl_lower l a
    have hfold : (a :: l).foldl f.lower none = some i := hi
    rw [hfold]
    refine ⟨fun k hk => ?_, iff_of_false (fun h => nomatch h) fun h => ?_⟩
    · cases hk
      refine ⟨(mem _).1 (List.mem_cons.2 hmem), fun j hj => ?_⟩
      rcases List.mem_cons.1 ((mem j).2 hj) with rfl | hj
      · exact hle
      · exact hall j hj
    · have ha := (mem a).1 List.mem_cons_self
      rw [h a] at ha
      cases ha

end Notices

/-- Settles O59: the pointer as the furthest of the fold, the count as the length of the same list. -/
theorem firstNoticeLaw : Obligations.FirstNoticeLaw := by
  intro f p places behind
  obtain ⟨hsome, hnone⟩ := f.firstNotice_spec p
  refine ⟨fun i => Option.any_eq_true _ _, length_filter_eq_sum _ _, fun i hi => ?_, hnone⟩
  obtain ⟨hat, hfurthest⟩ := hsome i hi
  refine ⟨hat, fun j e d hj he hd => ?_⟩
  have h := hfurthest j hj
  rw [Faults.behindAt_eq he, Faults.behindAt_eq hd] at h
  exact h

end Sys2Proof.Machine
end

section
/-!
PROOF. The meter line: a character by the receiver's state (O34), and the drain's operations (O35, O36, O37).
-/

namespace Sys2Proof.Machine

/-! ## Characters (R39 to R42) -/

section Characters

variable {s : State}

/-- The slot found holds the address and is the first that does. -/
theorem State.slotAt_eq_some {address : Byte} {m : SlotNo}
    (hm : (s.meter m).state ≠ .off ∧ (s.meter m).address = address.toNat)
    (hfirst : ∀ n, n < m → ¬ ((s.meter n).state ≠ .off ∧ (s.meter n).address = address.toNat)) (hlo : 1 ≤ address.toNat)
    (hhi : address.toNat ≤ 250) : s.slotAt address = some m := by
  rw [State.slotAt, if_pos ⟨hlo, hhi⟩, List.find?_eq_some_iff_getElem]
  refine ⟨by simpa using hm, m.val, by rw [List.length_finRange]; exact m.isLt, List.getElem_finRange _, fun j hj => ?_⟩
  have hlt := hfirst ⟨j, Nat.lt_trans hj m.isLt⟩ hj
  rw [List.getElem_finRange, Bool.not_eq_true', Bool.and_eq_false_iff, decide_eq_false_iff_not, decide_eq_false_iff_not]
  exact Classical.not_and_iff_not_or_not.1 hlt

theorem State.slotAt_eq_none {address : Byte}
    (h : (∀ m, ¬ ((s.meter m).state ≠ .off ∧ (s.meter m).address = address.toNat)) ∨ address.toNat = 0 ∨
      250 < address.toNat) : s.slotAt address = none := by
  unfold State.slotAt
  split
  · next hrange =>
    have hnone := h.resolve_right (by omega)
    rw [List.find?_eq_none]
    intro m _
    simpa [-not_and] using hnone m
  · rfl

theorem State.addressedBy_of_some {address : Byte} {m : SlotNo} (h : s.slotAt address = some m) :
    s.addressedBy address = .addressed m address [] := by
  rw [State.addressedBy, h]

theorem State.addressedBy_of_none {address : Byte} (h : s.slotAt address = none) : s.addressedBy address = .discarding := by
  rw [State.addressedBy, h]

theorem State.addressCharacter_of_outside (h : s.receiver = .idle ∨ s.receiver = .discarding) (address : Byte) :
    s.addressCharacter address = s.receive (s.addressedBy address) := by
  rcases h with h | h <;> simp only [State.addressCharacter, h]

theorem State.addressCharacter_of_empty {m : SlotNo} {a : Byte} (h : s.receiver = .addressed m a []) (address : Byte) :
    s.addressCharacter address = s.receive (s.addressedBy address) := by
  simp only [State.addressCharacter, h]
  rfl

theorem State.addressCharacter_of_begun {m : SlotNo} {a d : Byte} {ds : List Byte}
    (h : s.receiver = .addressed m a (d :: ds)) (address : Byte) :
    s.addressCharacter address = (s.enqueue (.error m a .truncated)).receive (s.addressedBy address) := by
  simp only [State.addressCharacter, h]
  rfl

theorem State.framingCharacter_of_outside (h : s.receiver = .idle ∨ s.receiver = .discarding) :
    s.framingCharacter = s.receive .discarding := by
  rcases h with h | h <;> simp only [State.framingCharacter, h]

theorem State.framingCharacter_of_addressed {m : SlotNo} {a : Byte} {ds : List Byte} (h : s.receiver = .addressed m a ds) :
    s.framingCharacter = (s.enqueue (.error m a .framing)).receive .discarding := by
  simp only [State.framingCharacter, h]

theorem State.dataCharacter_of_outside (h : s.receiver = .idle ∨ s.receiver = .discarding) (data : Byte) :
    s.dataCharacter data = s := by
  rcases h with h | h <;> simp only [State.dataCharacter, h]

/-! ### Commands while the interfaces run -/

variable (hrun : s.interfacesRun = true)

include hrun

theorem exec_addressCharacter (address : Byte) :
    exec (.meterLineCharacter true address true) s = .next (s.addressCharacter address) := by
  have h : exec (.meterLineCharacter true address true) s =
    .next (if !s.interfacesRun then s else s.addressCharacter address) := rfl
  rw [h, hrun]
  rfl

theorem exec_dataCharacter (data : Byte) :
    exec (.meterLineCharacter false data true) s = .next (s.dataCharacter data) := by
  have h : exec (.meterLineCharacter false data true) s =
    .next (if !s.interfacesRun then s else s.dataCharacter data) := rfl
  rw [h, hrun]
  rfl

theorem exec_framingCharacter (flag : Bool) (data : Byte) :
    exec (.meterLineCharacter flag data false) s = .next s.framingCharacter := by
  have h : exec (.meterLineCharacter flag data false) s =
    .next (if !s.interfacesRun then s else s.framingCharacter) := rfl
  rw [h, hrun]
  rfl

theorem exec_gapExpiry_of_idle (h : s.receiver = .idle) : exec .gapExpiry s = .next s := by
  simp only [exec, execGapExpiry, hrun, h]
  rfl

theorem exec_gapExpiry_of_discarding (h : s.receiver = .discarding) :
    exec .gapExpiry s = .next { s with receiver := .idle } := by
  simp only [exec, execGapExpiry, hrun, h]
  rfl

theorem exec_gapExpiry_of_empty {m : SlotNo} {a : Byte} (h : s.receiver = .addressed m a []) :
    exec .gapExpiry s = .next { s with receiver := .idle } := by
  simp only [exec, execGapExpiry, hrun, h]
  rfl

theorem exec_gapExpiry_of_begun {m : SlotNo} {a d : Byte} {ds : List Byte} (h : s.receiver = .addressed m a (d :: ds)) :
    exec .gapExpiry s = .next { State.captured s (.error m a .gap) with receiver := .idle } := by
  simp only [exec, execGapExpiry, hrun, h]
  rfl

end Characters

/-! ### The data characters of a frame (R39) -/

section Frames

variable {s : State} {m : SlotNo} {a : Byte} {ds : List Byte}

/-- A data character in ADDRESSED, by the tests at positions 2 and 12. -/
theorem State.dataCharacter_of_addressed (h : s.receiver = .addressed m a ds) (data : Byte) : s.dataCharacter data =
    if (ds ++ [data]).length = 2 ∧ data ≠ Config.readingFunction then s.receive .discarding
    else if (ds ++ [data]).length = 2 ∧ taken (ds ++ [data]) 1 ≠ Config.readingLength then
      (s.enqueue (.error m a .length)).receive .discarding
    else if (ds ++ [data]).length = 12 then
      (s.enqueue (if checkSum ds = data then frameOf m a (ds ++ [data]) else .error m a .check)).receive .discarding
    else s.receive (.addressed m a (ds ++ [data])) := by
  simp only [State.dataCharacter, h]

theorem State.dataCharacter_of_inside (h : s.receiver = .addressed m a ds) (h1 : ds.length ≠ 1) (h11 : ds.length ≠ 11)
    (data : Byte) : s.dataCharacter data = s.receive (.addressed m a (ds ++ [data])) := by
  have hlength : (ds ++ [data]).length = ds.length + 1 := List.length_append
  rw [State.dataCharacter_of_addressed h, if_neg (by omega), if_neg (by omega), if_neg (by omega)]

theorem State.dataCharacter_of_otherFunction {d : Byte} (h : s.receiver = .addressed m a [d]) {data : Byte}
    (hdata : data ≠ 0xA5#8) : s.dataCharacter data = s.receive .discarding := by
  rw [State.dataCharacter_of_addressed h]
  exact if_pos ⟨rfl, hdata⟩

theorem State.dataCharacter_of_otherLength {d : Byte} (h : s.receiver = .addressed m a [d]) (hd : d ≠ 11#8) :
    s.dataCharacter 0xA5#8 = (s.enqueue (.error m a .length)).receive .discarding := by
  rw [State.dataCharacter_of_addressed h, if_neg (fun h => h.2 rfl)]
  exact if_pos ⟨rfl, hd⟩

theorem State.dataCharacter_of_header (h : s.receiver = .addressed m a [11#8]) :
    s.dataCharacter 0xA5#8 = s.receive (.addressed m a [11#8, 0xA5#8]) := by
  rw [State.dataCharacter_of_addressed h, if_neg (fun h => h.2 rfl), if_neg (fun h => h.2 rfl)]
  exact if_neg (by simp)

/-- The check character at position 12. -/
theorem State.dataCharacter_of_full (h : s.receiver = .addressed m a ds) (hds : ds.length = 11) (data : Byte) :
    s.dataCharacter data =
      (s.enqueue (if checkSum ds = data then frameOf m a (ds ++ [data]) else .error m a .check)).receive .discarding := by
  have hlength : (ds ++ [data]).length = 12 := by rw [List.length_append, hds]; rfl
  rw [State.dataCharacter_of_addressed h, if_neg (by omega), if_neg (by omega), if_pos hlength]

end Frames

/-- Settles O34: the slot by the address search, the receiver's states one by one. -/
theorem meterLineCharacter : Obligations.MeterLineCharacter := by
  refine ⟨fun s hrun => ⟨fun address => ?_, fun flag data => ?_, fun data h => ?_, exec_gapExpiry_of_idle hrun,
    exec_gapExpiry_of_discarding hrun, fun m a => exec_gapExpiry_of_empty hrun,
    fun m a d ds => exec_gapExpiry_of_begun hrun, fun m a ds data hds => ?_⟩, fun s flag stop data hstop => ?_⟩
  · intro there next
    have arrives (t : State) (h : s.addressCharacter address = t.receive (s.addressedBy address)) : next t := by
      refine ⟨fun m hm hfirst hlo hhi => ?_, fun hnone => ?_⟩
      · rw [exec_addressCharacter hrun, h, State.addressedBy_of_some (State.slotAt_eq_some hm hfirst hlo hhi)]
        rfl
      · rw [exec_addressCharacter hrun, h, State.addressedBy_of_none (State.slotAt_eq_none hnone)]
        rfl
    exact ⟨fun h => arrives s (State.addressCharacter_of_outside h address),
      fun m a h => arrives s (State.addressCharacter_of_empty h address),
      fun m a d ds h => arrives _ (State.addressCharacter_of_begun h address)⟩
  · refine ⟨fun h => ?_, fun m a ds h => ?_⟩
    · rw [exec_framingCharacter hrun, State.framingCharacter_of_outside h]
      rfl
    · rw [exec_framingCharacter hrun, State.framingCharacter_of_addressed h]
      rfl
  · rw [exec_dataCharacter hrun, State.dataCharacter_of_outside h]
  · rw [exec_dataCharacter hrun]
    refine ⟨fun h1 h11 => ?_, fun d hd hdata => ?_, fun d hd hdata hlength => ?_, fun hd hdata => ?_, ?_⟩
    · rw [State.dataCharacter_of_inside hds h1 h11]
      rfl
    · rw [State.dataCharacter_of_otherFunction (hd ▸ hds) hdata]
      rfl
    · rw [hdata, State.dataCharacter_of_otherLength (hd ▸ hds) hlength]
      rfl
    · rw [hdata, State.dataCharacter_of_header (hd ▸ hds)]
      rfl
    · rintro d1 d2 d3 d4 d5 d6 d7 d8 d9 d10 d11 rfl
      have hsum : checkSum [d1, d2, d3, d4, d5, d6, d7, d8, d9, d10, d11] =
          d1 + d2 + d3 + d4 + d5 + d6 + d7 + d8 + d9 + d10 + d11 :=
        congrArg (· + d2 + d3 + d4 + d5 + d6 + d7 + d8 + d9 + d10 + d11) (BitVec.zero_add d1)
      rw [State.dataCharacter_of_full hds rfl, hsum, ite_congr_iff eq_comm rfl rfl]
      rfl
  · refine ⟨?_, ?_⟩
    · have h : exec (.meterLineCharacter flag data stop) s = execMeterLineCharacter flag data stop s := rfl
      rw [h, execMeterLineCharacter, hstop]
      rfl
    · have h : exec .gapExpiry s = execGapExpiry s := rfl
      rw [h, execGapExpiry, hstop]
      rfl

end Sys2Proof.Machine
end

section
/-!
PROOF. The drain's operations: errors and first frames (O35), readings (O36) and held deltas (O37).
-/

namespace Sys2Proof.Machine

/-! ## The grant of a drain operation (R42, R144) -/

/-- Raises made in a row touch the Fault Table alone. -/
theorem State.raiseTimes_eq (s : State) (k : Nat) (c : FaultClass) (sub : Subject) (n : Nat) :
    s.raiseTimes k c sub n = { s with faults := (s.raiseTimes k c sub n).faults } := by
  induction k generalizing s with
  | zero => rfl
  | succ k ih => exact ih (s.raise c sub n)

theorem State.raiseTimes_faults {s t : State} (h : s.faults = t.faults) (k : Nat) (c : FaultClass) (sub : Subject) (n : Nat) :
    (s.raiseTimes k c sub n).faults = (t.raiseTimes k c sub n).faults := by
  induction k generalizing s t with
  | zero => exact h
  | succ k ih => exact ih (congrArg (fun f : Faults => f.raise c sub n) h)

/-- The state a drain operation works on, under an arbiter. -/
def State.draining (s : State) (arbiter : Arbiter) : State := { s.afterDrain with arbiter := arbiter }

theorem State.granted_of_nextGrant {s : State} {r : Requester} (h : s.nextGrant = some r) : s.arbiter.granted = none := by
  refine Classical.byContradiction fun hbusy => ?_
  rw [State.nextGrant_of_busy (.inl hbusy)] at h
  cases h

theorem State.openGrant_drain (s : State) :
    s.openGrant .drain = s.draining (s.beginGrant .drain).arbiter := by
  have hfaults : ((s.beginGrant .drain).raiseTimes s.overruns .lineOverrun .line s.clock.interval).faults =
      (s.raiseTimes s.overruns .lineOverrun .line s.clock.interval).faults :=
    State.raiseTimes_faults (s := s.beginGrant .drain) (t := s) rfl _ _ _ _
  have hopen : s.openGrant .drain =
    { (s.beginGrant .drain).raiseTimes s.overruns .lineOverrun .line s.clock.interval with overruns := 0 } := rfl
  rw [hopen, State.raiseTimes_eq, hfaults]
  rfl

/-- A drain operation granted now leaves what its work leaves, the drain out of the yield set. -/
theorem State.operation_drain {s : State} (hgrant : s.nextGrant = some .drain) {enabled : Bool} (henabled : enabled = true)
    {work : State → State} (u : State) (hu : u.arbiter = s.afterDrain.arbiter)
    (hwork : ∀ arbiter, work (s.draining arbiter) = { u with arbiter := arbiter }) :
    s.operation .drain enabled work = u := by
  have hfree := State.granted_of_nextGrant hgrant
  have harbiter : u.arbiter = { granted := none, turn := s.arbiter.turn
                                yieldSet := s.arbiter.yieldSet.filter fun q => decide (q ≠ .drain) } := by
    rw [hu, ← hfree]
    rfl
  rw [State.operation, if_pos (by rw [henabled, hgrant]; rfl), State.openGrant_drain, hwork]
  refine Eq.trans ?_ (congrArg (fun x => { u with arbiter := x }) harbiter.symm)
  rfl

section Draining

variable {s : State} (arbiter : Arbiter)

@[simp] theorem State.draining_meter (m : SlotNo) : (s.draining arbiter).meter m = s.meter m := rfl
@[simp] theorem State.draining_account (a : AccountNo) : (s.draining arbiter).account a = s.account a := rfl
@[simp] theorem State.draining_bank : (s.draining arbiter).bank = s.bank := rfl
@[simp] theorem State.draining_clock : (s.draining arbiter).clock = s.clock := rfl
@[simp] theorem State.draining_capture : (s.draining arbiter).capture = s.capture := rfl

end Draining

/-- The drain of the head entry, whose effect is `u` before the entry leaves the queue. -/
theorem exec_drain {s : State} {e : CaptureEntry} {rest : List CaptureEntry} (hgrant : s.nextGrant = some .drain)
    (hheld : s.anyHeldDue = false) (hcapture : s.capture = e :: rest) (u : State) (hu : u.arbiter = s.afterDrain.arbiter)
    (h : ∀ arbiter, (s.draining arbiter).drainEntry e = { u with arbiter := arbiter }) :
    exec .drainCaptureEntry s = .next { u with capture := rest } := by
  refine congrArg Host.Outcome.next (State.operation_drain hgrant ?_ { u with capture := rest } hu fun arbiter => ?_)
  · rw [hcapture, hheld]
    rfl
  · have hhead : (s.draining arbiter).drainHead = { (s.draining arbiter).drainEntry e with capture := rest } := by
      simp only [State.drainHead, State.draining_capture, hcapture]
    rw [hhead, h]

/-! ## A slot made SUSPECT (R45, R47) -/

/-- The Fault Table after a slot in a state becomes SUSPECT. -/
def Faults.suspected (f : Faults) (state : MeterState) (m : SlotNo) (n : Nat) : Faults :=
  (if state = .late then f.endCondition .meterLate (.meter m) else f).raise .meterSuspect (.meter m) n

theorem State.makeSuspect_eq (s : State) (m : SlotNo) (n : Nat) : s.makeSuspect m n = { s with
    meters := s.meters.set m { s.meter m with state := .suspect }
    faults := s.faults.suspected (s.meter m).state m n } := by
  unfold State.makeSuspect Faults.suspected
  simp only
  split <;> rfl

theorem State.rejectFrame_eq (s : State) (m : SlotNo) (c : FaultClass) : s.rejectFrame m c = { s with
    meters := s.meters.set m { s.meter m with state := .suspect }
    faults := (s.faults.raise c (.meter m) s.clock.interval).suspected (s.meter m).state m s.clock.interval } := by
  rw [State.rejectFrame, State.makeSuspect_eq]
  rfl

/-! ## Errors and first frames (R45, R48) -/

section Entries

variable {s : State} {m : SlotNo} {a : Byte}

theorem State.concerns_iff : s.concerns m a = true ↔ (s.meter m).state ≠ .off ∧ (s.meter m).address = a.toNat := by
  simp [State.concerns]

/-- The slot with one more error in its streak. -/
def MeterSlot.counted (k : MeterSlot) : MeterSlot := { k with errorStreak := min 15 (k.errorStreak + 1) }

/-- A slot written and then made SUSPECT. -/
theorem State.makeSuspect_of_set (s : State) (m : SlotNo) (k : MeterSlot) (f : Faults) (n : Nat) :
    State.makeSuspect { s with meters := s.meters.set m k, faults := f } m n = { s with
      meters := s.meters.set m { k with state := .suspect }, faults := f.suspected k.state m n } := by
  have hmeter : State.meter { s with meters := s.meters.set m k, faults := f } m = k := Table.get_set_self _ _ _
  rw [State.makeSuspect_eq, hmeter]
  simp only [Table.set_set]

theorem State.drainError_of_short (h : (s.meter m).errorStreak ≠ 7) : s.drainError m = { s with
    meters := s.meters.set m (s.meter m).counted
    faults := s.faults.raise .lineFrame (.meter m) s.clock.interval } := by
  unfold State.drainError
  have hshort : ¬ (s.meter m).errorStreak + 1 = Config.linkStreak := fun hlink => h (Nat.succ.inj hlink)
  rw [if_neg hshort, addSat_eq]
  rfl

theorem State.drainError_of_link (h : (s.meter m).errorStreak = 7) (hstate : (s.meter m).state = .suspect) :
    s.drainError m = { s with
      meters := s.meters.set m (s.meter m).counted
      faults := (s.faults.raise .lineFrame (.meter m) s.clock.interval).raise .meterLink (.meter m) s.clock.interval } := by
  unfold State.drainError
  have hlink : (s.meter m).errorStreak + 1 = Config.linkStreak := congrArg Nat.succ h
  rw [if_pos hlink, addSat_eq, if_pos hstate]
  rfl

theorem State.drainError_of_broken (h : (s.meter m).errorStreak = 7) (hstate : (s.meter m).state ≠ .suspect) :
    s.drainError m = { s with
      meters := s.meters.set m { (s.meter m).counted with state := .suspect }
      faults := ((s.faults.raise .lineFrame (.meter m) s.clock.interval).raise .meterLink (.meter m)
        s.clock.interval).suspected (s.meter m).state m s.clock.interval } := by
  unfold State.drainError
  have hlink : (s.meter m).errorStreak + 1 = Config.linkStreak := congrArg Nat.succ h
  rw [if_pos hlink, addSat_eq, if_neg hstate]
  exact State.makeSuspect_of_set s m (s.meter m).counted _ _

theorem MeterSlot.heard_eq (k : MeterSlot) (r1 r2 : Word) : k.heard r1 r2 = { k with
    reference1 := if k.service = .cool then k.reference1 else r1
    reference2 := if k.service = .heat then k.reference2 else r2
    frameSeen := true, errorStreak := 0, state := .live } := by
  rw [MeterSlot.heard, MeterService.credits_heating, MeterService.credits_cooling]
  simp only [decide_eq_true_eq, ite_not]

variable {r1 r2 : Word} {st : Byte}

theorem State.drainFrame_of_suspect (h : (s.meter m).state = .suspect) : s.drainFrame m r1 r2 st = s := by
  simp only [State.drainFrame, h]

theorem State.drainFrame_of_alarm (h : (s.meter m).state = .unreferenced) (hst : st.getLsbD 0 = true) :
    s.drainFrame m r1 r2 st = s.rejectFrame m .meterAlarm := by
  simp only [State.drainFrame, h, hst, if_true]

theorem State.drainFrame_of_first (h : (s.meter m).state = .unreferenced) (hst : st.getLsbD 0 = false) :
    s.drainFrame m r1 r2 st = s.setMeter m ((s.meter m).heard r1 r2) := by
  simp only [State.drainFrame, h, hst, Bool.false_eq_true, if_false]

theorem State.drainFrame_of_reading (h : (s.meter m).state = .live ∨ (s.meter m).state = .late) :
    s.drainFrame m r1 r2 st = s.drainReading m r1 r2 st := by
  rcases h with h | h <;> simp only [State.drainFrame, h]

end Entries

/-- Settles O35: the entry by its kind, and the slot's streak or state. -/
theorem drainErrorsAndFirstFrames : Obligations.DrainErrorsAndFirstFrames := by
  intro s m a rest k n u suspect concerned hgrant hheld
  refine ⟨fun e hcapture he hno => ?_, fun w hcapture hyes => ?_, fun r1 r2 st hcapture hyes => ?_⟩
  · refine exec_drain hgrant hheld hcapture s.afterDrain rfl fun arbiter => ?_
    have hconcerns : ¬ (s.draining arbiter).concerns m a = true := fun h => hno (State.concerns_iff.1 h)
    rcases he with ⟨w, rfl⟩ | ⟨r1, r2, st, rfl⟩ <;> exact if_neg hconcerns
  · have hentry (arbiter : Arbiter) : (s.draining arbiter).drainEntry (.error m a w) = (s.draining arbiter).drainError m :=
      if_pos (State.concerns_iff.2 hyes)
    refine ⟨fun hshort => ?_, fun hlink hsuspect => ?_, fun hlink hstate => ?_⟩
    · exact exec_drain hgrant hheld hcapture { s.afterDrain with
        meters := s.meters.set m k.counted, faults := s.afterDrain.faults.raise .lineFrame (.meter m) n } rfl
        fun arbiter => (hentry arbiter).trans (State.drainError_of_short (s := s.draining arbiter) hshort)
    · exact exec_drain hgrant hheld hcapture { s.afterDrain with
        meters := s.meters.set m k.counted
        faults := (s.afterDrain.faults.raise .lineFrame (.meter m) n).raise .meterLink (.meter m) n } rfl
        fun arbiter => (hentry arbiter).trans (State.drainError_of_link (s := s.draining arbiter) hlink hsuspect)
    · exact exec_drain hgrant hheld hcapture { s.afterDrain with
        meters := s.meters.set m { k.counted with state := .suspect }
        faults := ((s.afterDrain.faults.raise .lineFrame (.meter m) n).raise .meterLink (.meter m) n).suspected k.state m
          n } rfl
        fun arbiter => (hentry arbiter).trans (State.drainError_of_broken (s := s.draining arbiter) hlink hstate)
  · have hentry (arbiter : Arbiter) :
        (s.draining arbiter).drainEntry (.frame m a r1 r2 st) = (s.draining arbiter).drainFrame m r1 r2 st :=
      if_pos (State.concerns_iff.2 hyes)
    refine ⟨fun hstate => ?_, fun hstate halarm => ?_, fun hstate halarm => ?_⟩
    · exact exec_drain hgrant hheld hcapture s.afterDrain rfl
        fun arbiter => (hentry arbiter).trans (State.drainFrame_of_suspect (s := s.draining arbiter) hstate)
    · exact exec_drain hgrant hheld hcapture { s.afterDrain with
        meters := s.meters.set m { k with state := .suspect }
        faults := (s.afterDrain.faults.raise .meterAlarm (.meter m) n).suspected k.state m n } rfl
        fun arbiter => (hentry arbiter).trans ((State.drainFrame_of_alarm (s := s.draining arbiter) hstate halarm).trans
          (State.rejectFrame_eq _ _ _))
    · exact exec_drain hgrant hheld hcapture { s.afterDrain with
        meters := s.meters.set m { k with
          reference1 := if k.service = .cool then k.reference1 else r1
          reference2 := if k.service = .heat then k.reference2 else r2
          frameSeen := true, errorStreak := 0, state := .live } } rfl
        fun arbiter => (hentry arbiter).trans ((State.drainFrame_of_first (s := s.draining arbiter) hstate halarm).trans
          (congrArg ((s.draining arbiter).setMeter m) (k.heard_eq r1 r2)))

/-! ## The tests of a reading (R46, R47) -/

section Readings

variable {k : MeterSlot}

/-- The class of a raw delta: a rollback, a spike or an advance. -/
def MeterSlot.classified (k : MeterSlot) (raw : Nat) : Delta :=
  if 2147483648 ≤ raw then .rollback
  else if (k.spikeLimit ≠ 0 ∧ k.spikeLimit < raw * k.scale.factor) ∨ 268435455 < raw * k.scale.factor then .spike
  else .advance (raw * k.scale.factor)

theorem MeterSlot.classified_zero : k.classified 0 = .advance 0 := by
  simp [MeterSlot.classified]

theorem MeterSlot.deltaFor_heating (value : Word) :
    k.deltaFor .heating value = k.classified (if k.service = .cool then 0 else (value - k.reference1).toNat) := by
  rw [MeterSlot.deltaFor, MeterService.credits_heating]
  by_cases h : k.service = .cool
  · rw [if_pos h, if_neg (by simpa using h), MeterSlot.classified_zero]
  · rw [if_neg h, if_pos (by simpa using h)]
    rfl

theorem MeterSlot.deltaFor_cooling (value : Word) :
    k.deltaFor .cooling value = k.classified (if k.service = .heat then 0 else (value - k.reference2).toNat) := by
  rw [MeterSlot.deltaFor, MeterService.credits_cooling]
  by_cases h : k.service = .heat
  · rw [if_pos h, if_neg (by simpa using h), MeterSlot.classified_zero]
  · rw [if_neg h, if_pos (by simpa using h)]
    rfl

/-- The event of the first test that fails, from the raw deltas. -/
def MeterSlot.failure (k : MeterSlot) (raw1 raw2 : Nat) (st : Byte) : Option FaultClass :=
  if st.getLsbD 0 then some .meterAlarm
  else if 2147483648 ≤ raw1 then some .meterRollback
  else if (k.spikeLimit ≠ 0 ∧ k.spikeLimit < raw1 * k.scale.factor) ∨ 268435455 < raw1 * k.scale.factor then
    some .meterSpike
  else if 2147483648 ≤ raw2 then some .meterRollback
  else if (k.spikeLimit ≠ 0 ∧ k.spikeLimit < raw2 * k.scale.factor) ∨ 268435455 < raw2 * k.scale.factor then
    some .meterSpike
  else none

theorem MeterSlot.testFrame_eq {raw1 raw2 : Nat} {r1 r2 : Word} {st : Byte}
    (h1 : k.deltaFor .heating r1 = k.classified raw1) (h2 : k.deltaFor .cooling r2 = k.classified raw2) :
    k.testFrame r1 r2 st =
      (k.failure raw1 raw2 st).elim (.ok ⟨raw1 * k.scale.factor, raw2 * k.scale.factor⟩) Except.error := by
  unfold MeterSlot.testFrame MeterSlot.failure
  rw [h1, h2]
  unfold MeterSlot.classified
  by_cases ha : st.getLsbD 0 = true
  · rw [if_pos ha, if_pos ha]
    rfl
  rw [if_neg ha, if_neg ha]
  by_cases hr1 : 2147483648 ≤ raw1
  · rw [if_pos hr1, if_pos hr1]
    rfl
  rw [if_neg hr1, if_neg hr1]
  by_cases hs1 : (k.spikeLimit ≠ 0 ∧ k.spikeLimit < raw1 * k.scale.factor) ∨ 268435455 < raw1 * k.scale.factor
  · rw [if_pos hs1, if_pos hs1]
    rfl
  rw [if_neg hs1, if_neg hs1]
  by_cases hr2 : 2147483648 ≤ raw2
  · rw [if_pos hr2, if_pos hr2]
    rfl
  rw [if_neg hr2, if_neg hr2]
  by_cases hs2 : (k.spikeLimit ≠ 0 ∧ k.spikeLimit < raw2 * k.scale.factor) ∨ 268435455 < raw2 * k.scale.factor
  · rw [if_pos hs2, if_pos hs2]
    rfl
  · rw [if_neg hs2, if_neg hs2]
    rfl

end Readings

/-! ## Deltas into balances and accumulations (R49, R50) -/

section Deltas

theorem reduction_eq (delta balance : Nat) : reduction delta balance = min delta balance := by
  unfold reduction
  split <;> omega

theorem Account.reduce_eq (r : Account) (d : PerService Nat) : r.reduce d = { r with work :=
    ⟨{ r.work.heating with balance := r.work.heating.balance - min d.heating r.work.heating.balance },
      { r.work.cooling with balance := r.work.cooling.balance - min d.cooling r.work.cooling.balance }⟩ } := by
  unfold Account.reduce
  simp only [reduction_eq]
  rfl

theorem Account.leaves_eq (r : Account) (d : PerService Nat) : r.leaves d =
    ⟨d.heating - min d.heating r.work.heating.balance, d.cooling - min d.cooling r.work.cooling.balance⟩ := by
  unfold Account.leaves
  simp only [reduction_eq]
  rfl

theorem addEnergy_eq (x y : PerService Nat) :
    addEnergy x y = ⟨min 268435455 (x.heating + y.heating), min 268435455 (x.cooling + y.cooling)⟩ := by
  unfold addEnergy
  simp only [addSat_eq]
  rfl

theorem MeterSlot.gather_eq (k : MeterSlot) (owner : Target) (d : PerService Nat) : k.gather owner d = { k with
    accumulation := ⟨min 268435455 (k.accumulation.heating + d.heating), min 268435455 (k.accumulation.cooling + d.cooling)⟩
    owner := owner } := by
  rw [MeterSlot.gather, addEnergy_eq]

theorem MeterSlot.hold_of_some {k : MeterSlot} {x : Held} (h : k.held = some x) (a : AccountNo) (d : PerService Nat) :
    k.hold a d = { k with
      held := some ⟨⟨min 268435455 (x.energy.heating + d.heating), min 268435455 (x.energy.cooling + d.cooling)⟩, a⟩ } := by
  simp only [MeterSlot.hold, h, addEnergy_eq]

theorem MeterSlot.hold_of_none {k : MeterSlot} (h : k.held = none) (a : AccountNo) (d : PerService Nat) :
    k.hold a d = { k with
      held := some ⟨⟨min 268435455 (0 + d.heating), min 268435455 (0 + d.cooling)⟩, a⟩ } := by
  simp only [MeterSlot.hold, h, addEnergy_eq]

theorem State.meetBalance_eq (s : State) (m : SlotNo) (a : AccountNo) (d : PerService Nat) : s.meetBalance m a d = { s with
    accounts := s.accounts.set a ((s.account a).reduce d)
    meters := s.meters.set m ((s.meter m).gather (.account a) ((s.account a).leaves d)) } := rfl

theorem State.holdActive_iff {s : State} {m : SlotNo} {a : AccountNo} : s.holdActive m a = true ↔
    ∃ x, s.bank = some x ∧ (x.slots.get m).state = .late ∧ (s.account a).settledThrough ≠ x.interval := by
  unfold State.holdActive
  cases s.bank <;> simp

/-- The state in which a slot stands as `k` and the Fault Table as `f`. -/
def State.heardBy (s : State) (m : SlotNo) (k : MeterSlot) (f : Faults) : State :=
  { s with meters := s.meters.set m k, faults := f }

section Heard

variable {s : State} {m : SlotNo} {k : MeterSlot} {f : Faults} {d : PerService Nat}

theorem State.heardBy_meter : (s.heardBy m k f).meter m = k := Table.get_set_self _ _ _

theorem State.heardBy_setMeter (l : MeterSlot) : (s.heardBy m k f).setMeter m l = s.heardBy m l f := by
  simp only [State.setMeter, State.heardBy, Table.set_set]

theorem State.disposeDeltas_of_unassigned (h : k.target = .unassigned) :
    (s.heardBy m k f).disposeDeltas m d = s.heardBy m k f := by
  simp only [State.disposeDeltas, State.heardBy_meter, h]

theorem State.disposeDeltas_of_pool {q : Pool} (h : k.target = .pool q) :
    (s.heardBy m k f).disposeDeltas m d = s.heardBy m (k.gather (.pool q) d) f := by
  simp only [State.disposeDeltas, State.heardBy_meter, h, State.heardBy_setMeter]

theorem State.disposeDeltas_of_held {b : AccountNo} (h : k.target = .account b) (hactive : s.holdActive m b = true) :
    (s.heardBy m k f).disposeDeltas m d = s.heardBy m (k.hold b d) f := by
  have hactive' : (s.heardBy m k f).holdActive m b = true := hactive
  simp only [State.disposeDeltas, State.heardBy_meter, h, hactive', if_true, State.heardBy_setMeter]

theorem State.disposeDeltas_of_met {b : AccountNo} (h : k.target = .account b) (hactive : ¬ s.holdActive m b = true) :
    (s.heardBy m k f).disposeDeltas m d = { s.heardBy m (k.gather (.account b) ((s.account b).leaves d)) f with
      accounts := s.accounts.set b ((s.account b).reduce d) } := by
  have hactive' : ¬ (s.heardBy m k f).holdActive m b = true := hactive
  simp only [State.disposeDeltas, State.heardBy_meter, h, if_neg hactive', State.meetBalance_eq]
  simp only [State.heardBy, State.account, Table.set_set]

end Heard

end Deltas

/-! ## One reading (R47, R48) -/

section Reading

variable {s : State} {m : SlotNo} {r1 r2 : Word} {st : Byte}

theorem State.drainReading_of_error {c : FaultClass} (h : (s.meter m).testFrame r1 r2 st = .error c) :
    s.drainReading m r1 r2 st = s.rejectFrame m c := by
  simp only [State.drainReading, h]

theorem State.drainReading_of_ok {d : PerService Nat} (h : (s.meter m).testFrame r1 r2 st = .ok d) :
    s.drainReading m r1 r2 st = (s.heardBy m ((s.meter m).heard r1 r2)
      (if (s.meter m).state = .late then s.faults.endCondition .meterLate (.meter m) else s.faults)).disposeDeltas m d := by
  simp only [State.drainReading, h]
  split <;> rfl

end Reading

/-- Settles O36: the tests, then the deltas by the slot's target. -/
theorem drainReadings : Obligations.DrainReadings := by
  intro s m a rest r1 r2 st k n u raw1 raw2 spikes failure ended heard e1 e2 add hgrant hheld hcapture hstate haddress
  have hconcerned : k.state ≠ .off ∧ k.address = a.toNat := by
    refine ⟨fun hoff => ?_, haddress⟩
    rcases hstate with h | h <;> exact nomatch hoff.symm.trans h
  have htest : k.testFrame r1 r2 st = failure.elim (.ok ⟨e1, e2⟩) Except.error :=
    MeterSlot.testFrame_eq (k.deltaFor_heating r1) (k.deltaFor_cooling r2)
  have hentry (arbiter : Arbiter) :
      (s.draining arbiter).drainEntry (.frame m a r1 r2 st) = (s.draining arbiter).drainReading m r1 r2 st :=
    (if_pos (State.concerns_iff.2 hconcerned)).trans (State.drainFrame_of_reading (s := s.draining arbiter) hstate)
  have hheard : k.heard r1 r2 = heard := k.heard_eq r1 r2
  have hdeltas (hnone : failure = none) (arbiter : Arbiter) : (s.draining arbiter).drainEntry (.frame m a r1 r2 st) =
      ((s.draining arbiter).heardBy m heard (ended s.afterDrain.faults)).disposeDeltas m ⟨e1, e2⟩ := by
    rw [hnone] at htest
    rw [hentry, ← hheard]
    exact State.drainReading_of_ok (s := s.draining arbiter) htest
  refine ⟨fun c hc => ?_, fun hnone htarget => ?_, fun q hnone htarget => ?_, fun b hnone htarget => ⟨?_, ?_⟩⟩
  · rw [hc] at htest
    exact exec_drain hgrant hheld hcapture { s.afterDrain with
      meters := s.meters.set m { k with state := .suspect }
      faults := (s.afterDrain.faults.raise c (.meter m) n).suspected k.state m n } rfl
      fun arbiter => (hentry arbiter).trans
        ((State.drainReading_of_error (s := s.draining arbiter) htest).trans (State.rejectFrame_eq _ _ _))
  · exact exec_drain hgrant hheld hcapture (s.afterDrain.heardBy m heard (ended s.afterDrain.faults)) rfl
      fun arbiter => (hdeltas hnone arbiter).trans (State.disposeDeltas_of_unassigned htarget)
  · have hgather := heard.gather_eq (.pool q) ⟨e1, e2⟩
    exact exec_drain hgrant hheld hcapture (s.afterDrain.heardBy m { heard with
      accumulation := ⟨add k.accumulation.heating e1, add k.accumulation.cooling e2⟩, owner := .pool q }
      (ended s.afterDrain.faults)) rfl
      fun arbiter => (hdeltas hnone arbiter).trans ((State.disposeDeltas_of_pool (k := heard) htarget).trans
        (congrArg (fun x => (s.draining arbiter).heardBy m x (ended s.afterDrain.faults)) hgather))
  · intro hwaits
    have hactive : s.holdActive m b = true := State.holdActive_iff.2 hwaits
    have hdispose (arbiter : Arbiter) : (s.draining arbiter).drainEntry (.frame m a r1 r2 st) =
        (s.draining arbiter).heardBy m (heard.hold b ⟨e1, e2⟩) (ended s.afterDrain.faults) :=
      (hdeltas hnone arbiter).trans (State.disposeDeltas_of_held (s := s.draining arbiter) htarget hactive)
    have hexec := exec_drain hgrant hheld hcapture
      (s.afterDrain.heardBy m (heard.hold b ⟨e1, e2⟩) (ended s.afterDrain.faults)) rfl hdispose
    rw [hexec]
    cases hk : k.held with
    | none =>
      rw [MeterSlot.hold_of_none (k := heard) hk]
      rfl
    | some x =>
      rw [MeterSlot.hold_of_some (k := heard) hk]
      rfl
  · intro hfree
    have hactive : ¬ s.holdActive m b = true := fun h => hfree (State.holdActive_iff.1 h)
    have hdispose (arbiter : Arbiter) : (s.draining arbiter).drainEntry (.frame m a r1 r2 st) =
        { (s.draining arbiter).heardBy m (heard.gather (.account b) ((s.account b).leaves ⟨e1, e2⟩))
            (ended s.afterDrain.faults) with
          accounts := s.accounts.set b ((s.account b).reduce ⟨e1, e2⟩) } :=
      (hdeltas hnone arbiter).trans (State.disposeDeltas_of_met (s := s.draining arbiter) htarget hactive)
    have hexec := exec_drain hgrant hheld hcapture
      { s.afterDrain.heardBy m (heard.gather (.account b) ((s.account b).leaves ⟨e1, e2⟩)) (ended s.afterDrain.faults) with
        accounts := s.accounts.set b ((s.account b).reduce ⟨e1, e2⟩) } rfl hdispose
    rw [hexec, MeterSlot.gather_eq, Account.leaves_eq, Account.reduce_eq]
    rfl

/-! ## Held deltas (R49) -/

theorem State.applyHeld_eq {s : State} {m : SlotNo} {h : Held} (hheld : (s.meter m).held = some h) :
    s.applyHeld m = { s with
      accounts := s.accounts.set h.account ((s.account h.account).reduce h.energy)
      meters := s.meters.set m { (s.meter m).gather (.account h.account) ((s.account h.account).leaves h.energy) with
        held := none } } := by
  have happly : s.applyHeld m = (s.meetBalance m h.account h.energy).setMeter m
      { (s.meetBalance m h.account h.energy).meter m with held := none } := by
    simp only [State.applyHeld, hheld]
  rw [happly, State.meetBalance_eq]
  simp only [State.setMeter, State.meter, Table.get_set_self, Table.set_set]

/-- Settles O37. -/
theorem applyHeldDeltas : Obligations.ApplyHeldDeltas := by
  intro s m h k w add hgrant hheld hactive
  have hdue : s.heldDue m = true := by
    have hk : (s.meter m).held = some h := hheld
    simp only [State.heldDue, hk, hactive]
    rfl
  have hexec : exec (.applyHeldDeltas m.val) s = .next (s.operation .drain (s.heldDue m) fun t => t.applyHeld m) :=
    congrArg Host.Outcome.next (dif_pos m.isLt)
  rw [hexec, State.operation_drain hgrant hdue { s.afterDrain with
    accounts := s.accounts.set h.account ((s.account h.account).reduce h.energy)
    meters := s.meters.set m { k.gather (.account h.account) ((s.account h.account).leaves h.energy) with held := none } }
    rfl fun arbiter => State.applyHeld_eq (s := s.draining arbiter) hheld]
  rw [MeterSlot.gather_eq, Account.leaves_eq, Account.reduce_eq]

end Sys2Proof.Machine
end

section
/-!
PROOF. The events at the Interval Clock: a TICK edge with what it brings about (O38), and the timer's expiry with the deferred
boundary (O39).
-/

namespace Sys2Proof.Machine

section Ticks

variable {s : State} {levels : Half}

/-! ## A deferred boundary (R26, R95) -/

theorem State.finishDeferred_of_not_due (h : s.deferredDue = false) : s.finishDeferred = s := by
  rw [State.finishDeferred, h]
  rfl

theorem State.finishDeferred_of_due (h : s.deferredDue = true) (hrun : s.interfacesRun = true) :
    s.finishDeferred = s.boundary := by
  rw [State.finishDeferred, h, hrun]
  rfl

theorem State.boundary_deferredDue (s : State) : s.boundary.deferredDue = false := by
  rw [← Bool.not_eq_true, State.deferredDue_iff, State.boundary_settle]
  rintro ⟨-, -, h⟩
  cases h

theorem State.boundary_interfacesRun (s : State) : s.boundary.interfacesRun = s.interfacesRun := by
  rw [State.boundary_eq]
  rfl

/-! ## The parts of a TICK (R24, R30, R64) -/

theorem State.endTickLoss_eq (s : State) : s.endTickLoss = { s with
    clock := { s.clock with tickLoss := false }
    faults := if s.clock.tickLoss then s.faults.endCondition .tickLoss .clock else s.faults } := by
  unfold State.endTickLoss
  split
  · rfl
  · next h =>
    rw [Bool.not_eq_true] at h
    rw [← h]

/-- The state at a TICK edge, before it is counted. -/
def State.edged (s : State) (levels : Half) : State := { s with
  clock := { s.clock with tickLoss := false }
  faults := if s.clock.tickLoss then s.faults.endCondition .tickLoss .clock else s.faults
  linePins := some levels }

theorem State.tick_eq (s : State) (levels : Half) : s.tick levels =
    if s.ticksCount then (s.edged levels).countTick.expireIfDue else s.edged levels := by
  unfold State.tick
  rw [State.endTickLoss_eq]
  rfl

theorem RuntimeLine.counted_eq (x : RuntimeLine) (levels : Half) (l : LineNo) : x.counted (x.active levels l) = { x with
    count := if x.enabled = true ∧ levels.getLsbD l.val ≠ x.activeLow then min 3600 (x.count + 1) else x.count } := by
  unfold RuntimeLine.counted
  rw [addSat_eq]
  have hactive : x.active levels l = true ↔ levels.getLsbD l.val ≠ x.activeLow := by
    simp [RuntimeLine.active]
  by_cases h : x.enabled = true ∧ levels.getLsbD l.val ≠ x.activeLow
  · rw [if_pos h, if_pos (Bool.and_eq_true_iff.2 ⟨h.1, hactive.2 h.2⟩)]
    rfl
  · rw [if_neg h, if_neg fun hc => h ((Bool.and_eq_true_iff.1 hc).imp id hactive.1)]

theorem Clock.counted_elapsed (c : Clock) : c.counted = { c with
    elapsed := if c.deferred = false ∧ c.elapsed < c.length * 60 then c.elapsed + 1 else c.elapsed } := by
  have h : c.counted = if c.deferred = false ∧ c.elapsed < c.length * 60 then { c with elapsed := c.elapsed + 1 } else c :=
    rfl
  rw [h]
  split <;> rfl

theorem State.edged_ticked (s : State) (levels : Half) : s.ticked levels (s.edged levels).countTick := by
  refine ⟨rfl, Clock.counted_elapsed _, fun l => ?_⟩
  refine (Table.get_ofFn _ l).trans ?_
  exact RuntimeLine.counted_eq (s.lines.get l) levels l

theorem Clock.expired_iff {c : Clock} : c.expired = true ↔ c.atLimit := by
  rw [Clock.expired, Bool.and_eq_true, Bool.not_eq_true', decide_eq_true_eq]
  rfl

theorem State.expireIfDue_of_limit (h : s.clock.atLimit) : s.expireIfDue = s.expireTimer := if_pos (Clock.expired_iff.2 h)

theorem State.expireIfDue_of_short (h : ¬ s.clock.atLimit) : s.expireIfDue = s :=
  if_neg fun hc => h (Clock.expired_iff.1 hc)

theorem State.expireTimer_spec (s : State) : s.expiredTo s.expireTimer := by
  have ports : s.expireTimer.ports = s.ports ∧ s.expireTimer.arbiter = s.arbiter := by
    unfold State.expireTimer
    split
    · exact ⟨rfl, rfl⟩
    · exact ⟨rfl, rfl⟩
    · split
      · exact ⟨rfl, rfl⟩
      · rw [State.boundary_eq]
        exact ⟨rfl, rfl⟩
  refine ⟨fun h => ?_, fun h hidle => ?_, fun h hsettle => ?_, ports.1, ports.2⟩
  · have htimer : s.expireTimer = s.alignmentBoundary := by simp only [State.expireTimer, h]
    rw [htimer]
    exact ⟨s.alignmentBoundary_spec, rfl⟩
  · have htimer : s.expireTimer = s.boundary := by
      simp only [State.expireTimer, h, hidle, Bool.false_eq_true, if_false]
    rw [htimer]
    exact s.boundary_spec
  · simp only [State.expireTimer, h, hsettle, if_true]
    rfl

/-! ## The events while the interfaces run -/

theorem State.ticksCount_iff : s.ticksCount = true ↔ s.interfacesRun = true ∧ s.clock.store ≠ .blank := by
  rw [State.ticksCount, Bool.and_eq_true, decide_eq_true_eq]

variable (hrun : s.interfacesRun = true)

include hrun

theorem State.tick_of_counted (hstore : s.clock.store ≠ .blank) : s.tick levels = (s.edged levels).countTick.expireIfDue := by
  rw [State.tick_eq, if_pos (State.ticksCount_iff.2 ⟨hrun, hstore⟩)]

theorem exec_tickEdge (levels : Half) : exec (.tickEdge levels) s = .next (s.finishDeferred.tick levels) :=
  congrArg Host.Outcome.next (if_pos hrun)

theorem exec_tickLossTimeout : exec .tickLossTimeout s =
    .next (if s.finishDeferred.clock.tickLoss then s.finishDeferred else s.finishDeferred.beginTickLoss) :=
  congrArg Host.Outcome.next (if_pos hrun)

end Ticks

/-- Settles O38: the edge's parts, the count's expiry, and a due boundary taken first. -/
theorem tickEdge : Obligations.TickEdge := by
  intro s levels
  refine ⟨fun hrun hdue => ?_, fun hrun hdue => ?_, fun hstop => ?_⟩
  · intro f
    have hexec : exec (.tickEdge levels) s = .next (s.tick levels) := by
      rw [exec_tickEdge hrun, State.finishDeferred_of_not_due hdue]
    have hloss : exec .tickLossTimeout s = .next (if s.clock.tickLoss then s else s.beginTickLoss) := by
      rw [exec_tickLossTimeout hrun, State.finishDeferred_of_not_due hdue]
    refine ⟨fun hblank => ?_, fun hstore => ?_, fun hfalse => ?_, fun htrue => ?_⟩
    · rw [hexec, State.tick_eq, if_neg fun h => (State.ticksCount_iff.1 h).2 hblank]
      rfl
    · rw [hexec, State.tick_of_counted hrun hstore]
      refine ⟨_, s.edged_ticked levels, fun hshort => ?_, fun hlimit => ?_⟩
      · rw [State.expireIfDue_of_short hshort]
      · exact ⟨_, congrArg _ (State.expireIfDue_of_limit hlimit), State.expireTimer_spec _⟩
    · rw [hloss, hfalse]
      rfl
    · rw [hloss, htrue]
      rfl
  · have hdone : s.boundary.finishDeferred = s.finishDeferred := by
      rw [State.finishDeferred_of_not_due s.boundary_deferredDue, State.finishDeferred_of_due hdue hrun]
    have hrun' : s.boundary.interfacesRun = true := s.boundary_interfacesRun.trans hrun
    refine ⟨s.boundary, congrArg Host.Outcome.next (State.finishDeferred_of_due hdue hrun), ?_, ?_⟩
    · rw [exec_tickEdge hrun, exec_tickEdge hrun', hdone]
    · rw [exec_tickLossTimeout hrun, exec_tickLossTimeout hrun', hdone]
  · have hidle : ¬ s.interfacesRun = true := by rw [hstop]; exact Bool.false_ne_true
    have hexpires : ¬ s.expiresNext = true := by
      rw [State.expiresNext, State.ticksCount, hstop]
      exact Bool.false_ne_true
    exact ⟨congrArg Host.Outcome.next (if_neg hidle), congrArg Host.Outcome.next (if_neg hidle),
      congrArg Host.Outcome.next (if_neg hexpires), congrArg Host.Outcome.next (State.finishDeferred_of_stopped hstop)⟩

theorem State.expiresNext_iff {s : State} (hrun : s.interfacesRun = true) : s.expiresNext = true ↔
    s.clock.store ≠ .blank ∧ s.clock.deferred = false ∧ s.clock.length * 60 ≤ s.clock.elapsed + 1 := by
  rw [State.expiresNext, Bool.and_eq_true, State.ticksCount_iff, Clock.expired_iff, Clock.counted_elapsed, and_assoc,
    and_iff_right hrun]
  refine and_congr_right fun _ => ?_
  have hlimit (elapsed : Nat) : Clock.atLimit { s.clock with elapsed := elapsed } ↔
    s.clock.deferred = false ∧ s.clock.length * 60 ≤ elapsed := Iff.rfl
  rw [hlimit]
  refine and_congr_right fun hdeferred => ?_
  simp only [hdeferred, true_and]
  split <;> omega

/-- Settles O39: the expiry as the counted TICK that reaches the limit. -/
theorem timerExpiry : Obligations.TimerExpiry := by
  intro s hrun
  refine ⟨fun hstore hdeferred hlimit => ?_, fun hno => ?_, fun hstore hdeferred hidle => ?_, fun hdue => ?_⟩
  · have hexpires := (State.expiresNext_iff hrun).2 ⟨hstore, hdeferred, hlimit⟩
    have hexec : exec .timerExpiry s = .next ((s.useFree 1).tick (Config.freeLevels s.freeSeq)) :=
      congrArg Host.Outcome.next (if_pos hexpires)
    have hat : ((s.useFree 1).edged (Config.freeLevels s.freeSeq)).countTick.clock.atLimit := by
      have hcounted : s.clock.counted.atLimit := Clock.expired_iff.1 (Bool.and_eq_true_iff.1 hexpires).2
      rw [Clock.counted_elapsed] at hcounted
      have hclock : ((s.useFree 1).edged (Config.freeLevels s.freeSeq)).countTick.clock =
        Clock.counted { s.clock with tickLoss := false } := rfl
      rw [hclock, Clock.counted_elapsed]
      exact hcounted
    rw [hexec, State.tick_of_counted (s := s.useFree 1) hrun hstore, State.expireIfDue_of_limit hat]
    exact ⟨_, _, (s.useFree 1).edged_ticked _, rfl, State.expireTimer_spec _⟩
  · have hexpires : ¬ s.expiresNext = true := by
      rw [State.expiresNext_iff hrun]
      rintro ⟨hstore, hdeferred, hlimit⟩
      rcases hno with h | h | h
      · exact hstore h
      · exact Bool.false_ne_true (hdeferred.symm.trans h)
      · omega
    exact congrArg Host.Outcome.next (if_neg hexpires)
  · have hdue : s.deferredDue = true := State.deferredDue_iff.2 ⟨hstore, hdeferred, hidle⟩
    refine ⟨s.boundary, congrArg Host.Outcome.next (State.finishDeferred_of_due hdue hrun), s.boundary_spec, ?_⟩
    rw [State.boundary_eq]
    exact ⟨rfl, rfl⟩
  · exact congrArg Host.Outcome.next (State.finishDeferred_of_not_due hdue)

end Sys2Proof.Machine
end

section
/-!
PROOF. The events at the Supply Supervisor: levels (O46), the exit from HOLD (O47), RESETn (O48) and the power-on reset (O49).
-/

namespace Sys2Proof.Machine

/-! ## A restart (R117, R188) -/

section Restart

variable {s : State}

/-- The account at which POST resumes is the unposted one of least place in post order. -/
theorem State.firstUnposted_eq_some {n : Nat} {x : AccountNo} (hx : (s.account x).settledThrough ≠ n)
    (hfirst : ∀ y, postRank y < postRank x → (s.account y).settledThrough = n) : s.firstUnposted n = some x := by
  cases h : s.firstUnposted n with
  | none => exact absurd (State.posted_of_firstUnposted_none h x) hx
  | some a =>
    rcases Nat.lt_trichotomy (postRank a) (postRank x) with hlt | heq | hgt
    · exact absurd (hfirst a hlt) (State.firstUnposted_mem h)
    · rw [postRank_injective heq]
    · exact absurd (State.firstUnposted_first h hgt) hx

theorem State.firstUnposted_eq_none {n : Nat} (h : ∀ x, (s.account x).settledThrough = n) : s.firstUnposted n = none := by
  cases hx : s.firstUnposted n with
  | none => rfl
  | some x => exact absurd (h x) (State.firstUnposted_mem hx)

theorem State.resumeSettle_eq (s : State) : s.resumeSettle = { s with settle := s.resumeSettle.settle } := by
  unfold State.resumeSettle
  split <;> rfl

/-- The settle a restart resumes with. -/
theorem State.resumeSettle_settle (s : State) :
    (s.settle = .idle → s.resumeSettle.settle = .idle) ∧
    (∀ b rs, s.settle = .compute b rs → s.resumeSettle.settle = .compute b []) ∧
    (∀ b r c, s.settle = .post b r c → s.resumeSettle.settle = .post b r ((s.firstUnposted b.interval).getD c)) ∧
    ∀ b r next done, s.settle = .closeout b r next done → s.resumeSettle.settle = .closeout b r next done := by
  refine ⟨fun h => ?_, fun b rs h => ?_, fun b r c h => ?_, fun b r next done h => ?_⟩ <;>
    simp only [State.resumeSettle, h]

theorem State.firstUnposted_congr {t : State} (h : t.accounts = s.accounts) (n : Nat) :
    t.firstUnposted n = s.firstUnposted n := by
  have haccount : t.account = s.account := funext fun a => congrArg (fun x => x.get a) h
  rw [State.firstUnposted, haccount]
  rfl

theorem State.resumeSettle_congr {t : State} (hsettle : t.settle = s.settle) (haccounts : t.accounts = s.accounts) :
    t.resumeSettle.settle = s.resumeSettle.settle := by
  obtain ⟨hidle, hcompute, hpost, hcloseout⟩ := s.resumeSettle_settle
  obtain ⟨tidle, tcompute, tpost, tcloseout⟩ := t.resumeSettle_settle
  cases h : s.settle with
  | idle => rw [hidle h, tidle (hsettle.trans h)]
  | compute b rs => rw [hcompute b rs h, tcompute b rs (hsettle.trans h)]
  | post b r c => rw [hpost b r c h, tpost b r c (hsettle.trans h), State.firstUnposted_congr haccounts]
  | closeout b r next done => rw [hcloseout b r next done h, tcloseout b r next done (hsettle.trans h)]

theorem State.raiseResumed_of_none (h : s.bank = none) : s.raiseResumed = s := by
  simp only [State.raiseResumed, h]

theorem State.raiseResumed_of_some {b : Bank} (h : s.bank = some b) :
    s.raiseResumed = if s.supervisor.resetSeen then s.raise .settleResumed .store b.interval else s := by
  simp only [State.raiseResumed, h]

theorem State.raiseResumed_eq (s : State) : s.raiseResumed = { s with faults := s.raiseResumed.faults } := by
  unfold State.raiseResumed
  split
  · split <;> rfl
  · rfl

/-- The state with the ports and the receiver restarted. -/
def State.reopened (s : State) : State :=
  { s with ports := ⟨s.ports.plant.restart, s.ports.billing.restart⟩, receiver := .idle }

/-- The state once the exits from HOLD have been raised. -/
def State.holdsRaised (s : State) : State :=
  s.reopened.raiseTimes s.supervisor.holdExits .supplyHold .supply s.clock.interval

theorem State.holdsRaised_eq (s : State) : s.holdsRaised = { s.reopened with
    faults := (s.raiseTimes s.supervisor.holdExits .supplyHold .supply s.clock.interval).faults } := by
  rw [State.holdsRaised, State.raiseTimes_eq]
  exact congrArg (fun f => { s.reopened with faults := f }) (State.raiseTimes_faults (s := s.reopened) (t := s) rfl _ _ _ _)

theorem State.restart_eq (s : State) : s.restart = { s.reopened with
    faults := s.holdsRaised.raiseResumed.faults
    settle := s.resumeSettle.settle
    supervisor := { s.supervisor with holdExits := 0, resetSeen := false } } := by
  have hrestart : s.restart = s.holdsRaised.raiseResumed.resumeSettle.setSupervisor
    { s.supervisor with holdExits := 0, resetSeen := false } := rfl
  have hsettle : s.holdsRaised.raiseResumed.resumeSettle.settle = s.resumeSettle.settle := by
    refine State.resumeSettle_congr ?_ ?_ <;> rw [State.raiseResumed_eq, State.holdsRaised_eq] <;> rfl
  rw [hrestart, State.resumeSettle_eq, hsettle, State.raiseResumed_eq, State.holdsRaised_eq]
  rfl

theorem State.restart_spec (s : State) : s.restarted s.restart := by
  obtain ⟨hidle, hcompute, hpost, hcloseout⟩ := s.resumeSettle_settle
  have hsettle : s.restart.settle = s.resumeSettle.settle := by rw [State.restart_eq]
  refine ⟨by rw [State.restart_eq]; rfl, ?_, ?_⟩
  · have hfaults : s.restart.faults = s.holdsRaised.raiseResumed.faults := by rw [State.restart_eq]
    have hbank : s.holdsRaised.bank = s.bank := by rw [State.holdsRaised_eq]; rfl
    rw [hfaults]
    cases hb : s.bank with
    | none =>
      rw [State.raiseResumed_of_none (hbank.trans hb), State.holdsRaised_eq]
    | some b =>
      rw [State.raiseResumed_of_some (hbank.trans hb), State.holdsRaised_eq]
      exact apply_ite State.faults _ _ _
  · rw [hsettle]
    cases h : s.settle with
    | idle => exact hidle h
    | compute b rs => exact hcompute b rs h
    | closeout b r next done => exact hcloseout b r next done h
    | post b r c =>
      refine ⟨fun x hx hfirst => ?_, fun hall => ?_⟩
      · rw [hpost b r c h, State.firstUnposted_eq_some hx hfirst]
        rfl
      · rw [hpost b r c h, State.firstUnposted_eq_none hall]
        rfl

end Restart

/-! ## VMAIN and VBAK (R185 to R187) -/

theorem State.stopInterfaces_eq (s : State) : s.stopInterfaces = s.stopped := rfl

section Levels

variable {s : State}

theorem State.mainFall_of_run (h : s.supervisor.supply = .run) : s.mainFall =
    (if s.supervisor.resetHigh then s.stopInterfaces else s).setSupervisor { s.supervisor with
      supply := if s.supervisor.backupLow then .off else .hold, main := .belowHold, recovery := false } := by
  simp only [State.mainFall, h]

theorem State.mainFall_of_stopped (h : s.supervisor.supply ≠ .run) : s.mainFall =
    s.setSupervisor { s.supervisor with main := .belowHold, recovery := false } := by
  unfold State.mainFall
  cases hs : s.supervisor.supply with
  | run => exact absurd hs h
  | hold => rfl
  | off => rfl

end Levels

/-- Settles O46. -/
theorem supplyLevels : Obligations.SupplyLevels := by
  intro s off
  refine ⟨fun hrun hhigh => ?_, fun hrun hlow => ?_, fun hstop => ?_, rfl, rfl, fun low h => ?_, fun hhold => ?_⟩
  · refine congrArg Host.Outcome.next ((State.mainFall_of_run hrun).trans ?_)
    rw [if_pos hhigh]
    rfl
  · refine congrArg Host.Outcome.next ((State.mainFall_of_run hrun).trans ?_)
    rw [hlow]
    rfl
  · exact congrArg Host.Outcome.next (State.mainFall_of_stopped hstop)
  · exact congrArg Host.Outcome.next (if_neg fun hc => h.elim (fun h => h hc.1) fun h => Bool.false_ne_true (h.symm.trans hc.2))
  · exact congrArg Host.Outcome.next (if_pos ⟨hhold, rfl⟩)

/-- Settles O47. -/
theorem holdExit : Obligations.HoldExit := by
  intro s hhold hrecovery v
  have hexec : exec .holdExit s = .next (s.setSupervisor v).restartIfReleased :=
    congrArg Host.Outcome.next (if_pos ⟨hhold, hrecovery⟩)
  refine ⟨fun hhigh => ⟨_, hexec.trans (congrArg _ (if_pos hhigh)), State.restart_spec _⟩, fun hlow => ?_⟩
  exact hexec.trans (congrArg _ (if_neg fun h => Bool.false_ne_true (hlow.symm.trans h)))

/-- Settles O48. -/
theorem warmReset : Obligations.WarmReset := by
  intro s
  refine ⟨fun hhigh => ?_, fun hlow => ?_⟩
  · intro v
    have hexec : exec .warmResetAssert s =
        .next ((if s.supervisor.supply = .run then s.stopInterfaces else s).setSupervisor v) :=
      congrArg Host.Outcome.next (if_pos hhigh)
    refine ⟨fun hrun => ?_, fun hstop => ?_⟩
    · rw [hexec, if_pos hrun]
      rfl
    · rw [hexec, if_neg hstop]
      rfl
  · intro v
    have hno : ¬ s.supervisor.resetHigh = true := fun h => Bool.false_ne_true (hlow.symm.trans h)
    have hexec : exec .warmResetRelease s =
        .next (if s.supervisor.supply = .run then (s.setSupervisor v).restart else s.setSupervisor v) :=
      congrArg Host.Outcome.next (if_neg hno)
    refine ⟨fun hrun => ⟨_, hexec.trans (congrArg _ (if_pos hrun)), State.restart_spec _⟩, fun hstop => ?_⟩
    rw [hexec, if_neg hstop]
    rfl

/-- Settles O49. -/
theorem powerOnReset : Obligations.PowerOnReset := by
  intro s hoff hrecovery
  refine ⟨s.powerOn, congrArg Host.Outcome.next (if_pos ⟨hoff, hrecovery⟩), rfl, rfl, fun p => ?_⟩
  cases p <;> rfl

end Sys2Proof.Machine
end

section
/-!
PROOF. The operations of the Settle Engine: COMPUTE's reads (O40), POST (O44) and CLOSEOUT (O45).
-/

namespace Sys2Proof.Machine

/-! ## The grant of an operation of the Settle Engine (R144) -/

theorem State.waiting_of_arbiter (s : State) (arbiter : Arbiter) :
    State.waiting { s with arbiter := arbiter } = s.waiting := by
  funext r
  cases r <;> rfl

/-- An operation of the Settle Engine granted now leaves what its work leaves, the waiting requesters in the yield set. -/
theorem State.operation_settle {s : State} (hgrant : s.nextGrant = some .settle) {enabled : Bool}
    (henabled : enabled = true) {work : State → State} (u : State) (hu : u.arbiter = s.arbiter)
    (hwork : ∀ arbiter, work { s with arbiter := arbiter } = { u with arbiter := arbiter }) :
    s.operation .settle enabled work = u.endsSettleStep := by
  have hfree := State.granted_of_nextGrant hgrant
  have harbiter : u.arbiter = { granted := none, turn := s.arbiter.turn, yieldSet := s.arbiter.yieldSet } := by
    rw [hu, ← hfree]
  have hopen : s.openGrant .settle = { s with arbiter := (s.beginGrant .settle).arbiter } := rfl
  rw [State.operation, if_pos (by rw [henabled, hgrant]; rfl), hopen, hwork, State.endGrant, State.endsSettleStep]
  simp only [State.waiting_of_arbiter, harbiter]
  rfl

/-! ## COMPUTE (R96) -/

/-- Settles O40. -/
theorem computeRead : Obligations.ComputeRead := by
  intro s b rs a hsettle hlength hgrant w rs'
  have hcompute : s.inCompute = true := by simp only [State.inCompute, hsettle]
  have ha : Fin.ofNat 48 rs.length = a := by
    refine Fin.ext ?_
    have hlt := a.isLt
    simp only [Fin.val_ofNat]
    omega
  have hlast : (rs.length + 1 < 48) = (a.val < 47) := by
    rw [hlength]
    exact propext (by omega)
  refine congrArg Host.Outcome.next (State.operation_settle hgrant hcompute _ rfl fun arbiter => ?_)
  rw [State.computeRead_eq (s := { s with arbiter := arbiter }) hsettle, ha]
  simp only [hlast]
  rfl

/-! ## One account's post (R107 to R111) -/

section Post

variable {s : State} {b : Bank} {r : Results} {a : AccountNo}

/-- What a trip reads of the state: the slot and the account's meter positions. -/
theorem State.trips_congr {t : State} {m : SlotNo} {sv : Service} (x : PerService ServiceResult)
    (hmeter : t.meter m = s.meter m) (hpos : (t.account a).meterPos = (s.account a).meterPos) :
    t.trips x a sv m = s.trips x a sv m := by
  rw [State.trips, State.trips, hmeter, hpos]

/-- The state after the trip of one account service. -/
def State.tripped (s : State) (x : PerService ServiceResult) (a : AccountNo) (sv : Service) (n : Nat) : State :=
  { s with
    meters := Table.ofFn fun m => if s.trips x a sv m then { s.meter m with state := .suspect } else s.meter m
    faults := s.faults.tripped (x.get sv).trip (s.trips x a sv) n }

theorem State.tripped_meter (x : PerService ServiceResult) (sv : Service) (n : Nat) (m : SlotNo) :
    (s.tripped x a sv n).meter m = if s.trips x a sv m then { s.meter m with state := .suspect } else s.meter m :=
  Table.get_ofFn _ _

/-- A slot made SUSPECT by the first trip is not LIVE at the second. -/
theorem State.tripped_trips (x : PerService ServiceResult) (sv tv : Service) (n : Nat) (m : SlotNo) :
    (s.tripped x a sv n).trips x a tv m = (s.trips x a tv m && !s.trips x a sv m) := by
  have hmeter := State.tripped_meter (s := s) (a := a) x sv n m
  by_cases h : s.trips x a sv m = true
  · rw [if_pos h] at hmeter
    rw [h, State.trips, hmeter]
    simp
  · rw [if_neg h] at hmeter
    rw [State.trips_congr x hmeter rfl, Bool.not_eq_true] at *
    rw [h, Bool.not_false, Bool.and_true]

/-- Both trips of a post. -/
theorem State.tripSlots_eq (s : State) (b : Bank) (a : AccountNo) (x : PerService ServiceResult) :
    (s.tripSlot b a .heating x.heating).tripSlot b a .cooling x.cooling = { s with
      meters := Table.ofFn fun m => if s.trips x a .heating m || s.trips x a .cooling m
        then { s.meter m with state := .suspect } else s.meter m
      faults := (s.faults.tripped x.heating.trip (s.trips x a .heating) b.interval).tripped x.cooling.trip
        (fun m => s.trips x a .cooling m && !s.trips x a .heating m) b.interval } := by
  have hfirst : s.tripSlot b a .heating x.heating = s.tripped x a .heating b.interval := s.tripSlot_eq b a .heating x
  have hsecond : (s.tripped x a .heating b.interval).tripSlot b a .cooling x.cooling =
    (s.tripped x a .heating b.interval).tripped x a .cooling b.interval := State.tripSlot_eq _ b a .cooling x
  have htrips : (s.tripped x a .heating b.interval).trips x a .cooling =
    fun m => s.trips x a .cooling m && !s.trips x a .heating m := funext fun m => State.tripped_trips x .heating .cooling _ m
  have hmeters : ((s.tripped x a .heating b.interval).tripped x a .cooling b.interval).meters = Table.ofFn fun m =>
      if s.trips x a .heating m || s.trips x a .cooling m then { s.meter m with state := .suspect } else s.meter m := by
    refine Table.ext_get fun m => ?_
    refine (State.tripped_meter x .cooling b.interval m).trans ?_
    rw [State.tripped_trips, State.tripped_meter, Table.get_ofFn]
    cases s.trips x a .heating m <;> cases s.trips x a .cooling m <;> rfl
  have hfaults : ((s.tripped x a .heating b.interval).tripped x a .cooling b.interval).faults =
      (s.faults.tripped x.heating.trip (s.trips x a .heating) b.interval).tripped x.cooling.trip
        (fun m => s.trips x a .cooling m && !s.trips x a .heating m) b.interval := by
    rw [← htrips]
    rfl
  rw [hfirst, hsecond, ← hmeters, ← hfaults]
  rfl

/-- The Fault Table before the trips of a post: what the stopped totals and the missing bases raise. -/
def State.basesRaised (s : State) (b : Bank) (r : Results) (a : AccountNo) : Faults :=
  let x := r.accounts.get a
  let n := b.interval
  let f0 := if b.standing a && (s.account a).totals.stops b.band x then s.faults.raise .accumSaturated (.account a) n
    else s.faults
  let f1 := if x.heating.noBasis then f0.raise .noBasis (.account a) n else f0
  if x.cooling.noBasis then f1.raise .noBasis (.account a) n else f1

/-- The Fault Table after the trips of a post. -/
def State.tripsRaised (s : State) (b : Bank) (r : Results) (a : AccountNo) : Faults :=
  let x := r.accounts.get a
  ((s.basesRaised b r a).tripped x.heating.trip (s.trips x a .heating) b.interval).tripped x.cooling.trip
    (fun m => s.trips x a .cooling m && !s.trips x a .heating m) b.interval

/-- The record, the slots and the Fault Table after one post, the balance check apart. -/
def State.tripsPosted (s : State) (b : Bank) (r : Results) (a : AccountNo) : State := { s with
  accounts := s.accounts.set a ((s.account a).post b a (r.accounts.get a) (r.estimateCredited.get a))
  meters := Table.ofFn fun m => if s.trips (r.accounts.get a) a .heating m || s.trips (r.accounts.get a) a .cooling m
    then { s.meter m with state := .suspect } else s.meter m
  faults := s.tripsRaised b r a }

/-- The Fault Table after a post: the balance check is raised with account 0. -/
def State.balanceRaised (s : State) (b : Bank) (r : Results) (a : AccountNo) : Faults :=
  if a = 0 then
    ((s.tripsRaised b r a).balanced .heating r.figures.heating.fault b.interval).balanced .cooling r.figures.cooling.fault
      b.interval
  else s.tripsRaised b r a

theorem State.postRecord_eq (s : State) (b : Bank) (r : Results) (a : AccountNo) :
    s.postRecord b r a = { s.tripsPosted b r a with faults := s.balanceRaised b r a } := by
  let x := r.accounts.get a
  let t := s.setAccount a ((s.account a).post b a x (r.estimateCredited.get a))
  let u : State := { t with faults := s.basesRaised b r a }
  have hbases : ((t.raiseSaturated b a (b.standing a && (s.account a).totals.stops b.band x)).raiseNoBasis b a
      x.heating).raiseNoBasis b a x.cooling = u := by
    rw [State.raiseNoBasis_eq, State.raiseNoBasis_eq, State.raiseSaturated_eq]
    rfl
  have htrips (sv : Service) : u.trips x a sv = s.trips x a sv := by
    funext m
    have haccount : u.account a = (s.account a).post b a x (r.estimateCredited.get a) := Table.get_set_self _ _ _
    exact State.trips_congr x rfl (by rw [haccount]; rfl)
  have hposted : (u.tripSlot b a .heating x.heating).tripSlot b a .cooling x.cooling = s.tripsPosted b r a := by
    rw [State.tripSlots_eq, htrips, htrips]
    rfl
  have hpost : s.postRecord b r a = if a = 0 then ((s.tripsPosted b r a).raiseBalance b .heating
      r.figures.heating).raiseBalance b .cooling r.figures.cooling else s.tripsPosted b r a := by
    rw [← hposted, ← hbases]
    rfl
  rw [hpost, State.raiseBalance_eq, State.raiseBalance_eq, State.balanceRaised]
  split <;> rfl

theorem State.accountPost_posts (h : s.settle = .post b r a) : s.accountPost =
    { s.postRecord b r a with settle := if a = 0 then .closeout b r 0 false else .post b r (nextPost a) } := by
  simp only [State.accountPost, h]

/-! ### The record of a post -/

theorem EnergyTotals.post_eq (t : EnergyTotals) (x : ServiceResult) : t.post x = t.after x := by
  rw [EnergyTotals.post, EnergyTotals.after]
  simp only [addSat_eq, added]
  rfl

theorem postCost_eq (t : PerBand Nat) (band : Band) (cost : Nat) :
    postCost t band cost = t.set band (added 281474976710655 (t.get band) cost) := by
  rw [postCost, addSat_eq]
  rfl

theorem Working.post_of_redirected {w : Working} {x : ServiceResult} (h : x.kind = .redirected) : w.post x = w := if_pos h

theorem Working.post_of_charged {w : Working} {x : ServiceResult} (h : x.kind ≠ .redirected) : w.post x =
    { carry := x.newCarry, balance := added 4294967295 w.balance x.balanceAdd
      history := (x.entry.toList ++ w.history).take 4, streak := x.newStreak } := by
  rw [Working.post, if_neg h, addSat_eq]
  cases x.entry <;> rfl

theorem Account.post_work (k : Account) (x : PerService ServiceResult) (e : Bool) (sv : Service) :
    (k.post b a x e).work.get sv = (k.work.get sv).post (x.get sv) := by
  cases sv <;> rfl

theorem Account.post_totals (k : Account) (x : PerService ServiceResult) (e : Bool) :
    (k.post b a x e).totals = if b.standing a then k.totals.post b x e else k.totals := rfl

end Post

/-- Settles O44: the record of the post, its slots, and its faults one after the other. -/
theorem accountPost : Obligations.AccountPost := by
  intro s b r a hsettle hgrant x old n
  let t : State := { s.postRecord b r a with settle := if a = 0 then .closeout b r 0 false else .post b r (nextPost a) }
  have ht : t = { s.tripsPosted b r a with
      settle := if a = 0 then .closeout b r 0 false else .post b r (nextPost a)
      faults := s.balanceRaised b r a } :=
    congrArg (fun u : State => { u with settle := if a = 0 then .closeout b r 0 false else .post b r (nextPost a) })
      (s.postRecord_eq b r a)
  have hpost : s.inPost = true := by simp only [State.inPost, hsettle]
  have hnew : t.account a = old.post b a x (r.estimateCredited.get a) := by
    rw [ht]
    exact Table.get_set_self _ _ _
  have htotals (hyes : b.standing a = true) :
      (t.account a).totals = old.totals.post b x (r.estimateCredited.get a) := by
    rw [hnew, Account.post_totals, if_pos hyes]
  refine ⟨t, congrArg Host.Outcome.next (State.operation_settle hgrant hpost t (by rw [ht]; rfl) fun arbiter => ?_),
    by rw [ht]; rfl, rfl, fun y hy => ?_, by rw [hnew]; rfl, fun sv hsv => ?_, fun sv hsv => ?_, fun hno => ?_,
    fun hyes => ⟨?_, ?_, ?_, ?_, ?_, fun sv => ⟨?_, ?_⟩⟩, fun m => ?_, ?_⟩
  · rw [State.accountPost_posts (s := { s with arbiter := arbiter }) hsettle, ht, State.postRecord_eq]
    rfl
  · rw [ht]
    exact Table.get_set_ne _ _ (Ne.symm hy)
  · rw [hnew, Account.post_work, Working.post_of_redirected hsv]
  · rw [hnew, Account.post_work, Working.post_of_charged hsv]
  · rw [hnew, Account.post_totals, if_neg (by rw [hno]; exact Bool.false_ne_true)]
  · rw [htotals hyes]
    rfl
  · rw [htotals hyes, ← Totals.stops_iff]
    exact Bool.or_eq_true_iff
  · rw [htotals hyes]
    exact addSat_eq _ _ _
  · rw [htotals hyes]
    exact ite_congr_iff Iff.rfl (addSat_eq _ _ _) rfl
  · rw [htotals hyes]
    exact ite_congr_iff Iff.rfl (addSat_eq _ _ _) rfl
  · rw [htotals hyes]
    cases sv <;> exact EnergyTotals.post_eq _ _
  · rw [htotals hyes]
    cases sv <;> exact postCost_eq _ _ _
  · rw [ht]
    exact Table.get_ofFn _ _
  · refine ⟨if b.standing a && old.totals.stops b.band x then s.faults.raise .accumSaturated (.account a) n
      else s.faults, fun hstops => ?_, fun hstops => ?_, by rw [ht]; rfl⟩
    · rw [← Totals.stops_iff] at hstops
      exact if_pos (Bool.and_eq_true_iff.2 hstops)
    · rw [← Totals.stops_iff] at hstops
      exact if_neg fun h => hstops (Bool.and_eq_true_iff.1 h)

/-! ## CLOSEOUT (R114, R127 to R130) -/

section Closeout

variable {s : State} {b : Bank} {r : Results}

theorem State.closeoutVisit_eq {a : AccountNo} {done : Bool} (h : s.settle = .closeout b r a.val done) :
    s.closeoutVisit = { s.visitAccount b a with settle := .closeout b r (a.val + 1) done } := by
  have ha : Fin.ofNat 48 a.val = a := Fin.ext (Nat.mod_eq_of_lt a.isLt)
  simp only [State.closeoutVisit, h, ha]

theorem Bank.statementWork_of_closing {a : AccountNo} (h : (b.accounts.get a).recorded = .closing) (active : Bool) :
    b.statementWork a active = some .final := by
  simp only [Bank.statementWork, h]

theorem Bank.statementWork_of_active {a : AccountNo} (h : (b.accounts.get a).recorded = .occupied)
    (hend : b.periodEnd = true) : b.statementWork a true = some .period := by
  simp [Bank.statementWork, h, hend]

theorem Bank.statementWork_of_none {a : AccountNo} {active : Bool} (hclosing : (b.accounts.get a).recorded ≠ .closing)
    (h : (b.accounts.get a).recorded ≠ .occupied ∨ b.periodEnd = false ∨ active = false) :
    b.statementWork a active = none := by
  unfold Bank.statementWork
  cases hr : (b.accounts.get a).recorded with
  | closing => exact absurd hr hclosing
  | occupied =>
    have hno : ¬ (b.periodEnd && active) = true := by
      rw [Bool.and_eq_true]
      rintro ⟨hend, hactive⟩
      rcases h with h | h | h
      · exact h hr
      · exact Bool.false_ne_true (h.symm.trans hend)
      · exact Bool.false_ne_true (h.symm.trans hactive)
    exact if_neg hno
  | _ => rfl

end Closeout

/-- Settles O45: the statement a visit issues, then the two steps that end the settle. -/
theorem closeout : Obligations.Closeout := by
  refine ⟨fun s b r a done hsettle hgrant => ?_, fun s b r hgrant => ⟨fun hsettle => ?_, fun hsettle => ?_⟩⟩
  · intro x u statement
    have hleft : s.visitsLeft = true := by
      simp only [State.visitsLeft, hsettle, decide_eq_true_eq]
      exact a.isLt
    have hexec (v : State) (hv : v.arbiter = s.arbiter)
        (h : ∀ arbiter, State.visitAccount { s with arbiter := arbiter } b a = { v with settle := s.settle, arbiter := arbiter })
        (hnext : v.settle = .closeout b r (a.val + 1) done) : exec .closeoutVisit s = .next v.endsSettleStep := by
      refine congrArg Host.Outcome.next (State.operation_settle hgrant hleft v hv fun arbiter => ?_)
      rw [State.closeoutVisit_eq (s := { s with arbiter := arbiter }) hsettle, h, ← hnext]
    refine ⟨fun hclosing => ?_, fun hoccupied hend hactive => ?_, fun hclosing hno => ?_⟩
    · refine hexec _ rfl (fun arbiter => ?_) rfl
      rw [State.visitAccount_some (s := { s with arbiter := arbiter }) (Bank.statementWork_of_closing hclosing _)]
      rfl
    · refine hexec _ rfl (fun arbiter => ?_) rfl
      have hwork : b.statementWork a (s.account a).totals.active = some .period := by
        have hactive' : (s.account a).totals.active = true := hactive
        rw [hactive']
        exact Bank.statementWork_of_active hoccupied hend
      rw [State.visitAccount_some (s := { s with arbiter := arbiter }) hwork]
      rfl
    · refine hexec u rfl (fun arbiter => ?_) rfl
      rw [State.visitAccount_none (s := { s with arbiter := arbiter }) (Bank.statementWork_of_none hclosing hno)]
  · have hdone : s.visitsDone false = true := by simp [State.visitsDone, hsettle]
    refine congrArg Host.Outcome.next (State.operation_settle hgrant hdone _ rfl fun arbiter => ?_)
    rw [State.periodStep_eq (s := { s with arbiter := arbiter }) hsettle]
    rfl
  · have hdone : s.visitsDone true = true := by simp [State.visitsDone, hsettle]
    refine congrArg Host.Outcome.next (State.operation_settle hgrant hdone _ rfl fun arbiter => ?_)
    rw [State.summaryWrite_eq (s := { s with arbiter := arbiter }) hsettle]
    rfl

end Sys2Proof.Machine
end

section
/-!
PROOF. What COMPUTE works out (O41): how an account service is charged, its estimate and its no-advance check (R69 to R77), and
the apportionment of an interval's energy (R97 to R104).
-/

namespace Sys2Proof.Machine

/-! ## The no-advance check (R76, R77) -/

section Check

variable {x : NoAdvance} {seconds : Option Nat} {energy streak : Nat}

/-- The open seconds suffice for the check. -/
def NoAdvance.applies (x : NoAdvance) (seconds : Option Nat) : Prop :=
  x.openMin ≠ 0 ∧ ∃ c, seconds = some c ∧ x.openMin ≤ c

theorem NoAdvance.check_of_not_applies (h : ¬ x.applies seconds) : x.check seconds energy streak = (streak, false) := by
  unfold NoAdvance.check
  cases hs : seconds with
  | none => rfl
  | some c =>
    have hshort : x.openMin = 0 ∨ c < x.openMin := by
      refine Classical.byContradiction fun hno => ?_
      rw [not_or, Nat.not_lt] at hno
      exact h ⟨hno.1, c, hs, hno.2⟩
    exact if_pos hshort

theorem NoAdvance.check_of_applies (h : x.applies seconds) : x.check seconds energy streak =
    if energy < x.advanceMin then
      if x.window ≤ min 15 (streak + 1) then (0, true) else (min 15 (streak + 1), false)
    else (0, false) := by
  obtain ⟨hopen, c, rfl, hc⟩ := h
  rw [← addSat_eq]
  exact if_neg fun hshort => hshort.elim hopen (Nat.not_lt.2 hc)

end Check

/-! ## How an account service is charged (R69, R97) -/

section Service

variable {b : Bank} {rs : List (PerService Reading)} {sv : Service} {a : AccountNo}

theorem Bank.settled_iff : b.settled a = true ↔
    ((b.accounts.get a).recorded = .occupied ∨ (b.accounts.get a).recorded = .closing) ∨
    ((b.accounts.get a).recorded = .joined ∧ ∃ l : AccountNo, l.val % 2 = 1 ∧ a.val = l.val + 1 ∧
      ((b.accounts.get l).recorded = .occupied ∨ (b.accounts.get l).recorded = .closing)) := by
  rw [Bank.settled, Bool.or_eq_true, b.standing_iff, b.extendsLower_iff]
  simp only [lowerOf_eq_some, b.standing_iff, and_assoc]

theorem Bank.ownSlotIs_iff {st : MeterState} : b.ownSlotIs sv a st = true ↔
    ((b.accounts.get a).meterPos.get sv).map (fun m => (b.slots.get m).state) = some st := by
  simp [Bank.ownSlotIs, Bank.ownSlot, Option.any_eq_true]

theorem Bank.kind_of_redirected (h : ¬ b.settled a = true) : b.kind sv a = .redirected := by
  rw [Bool.not_eq_true] at h
  rw [Bank.kind, h]
  rfl

theorem Bank.kind_of_metered (h : b.settled a = true) (hbasis : (b.accounts.get a).settings.basis.get sv = .metered)
    (hlive : b.ownSlotIs sv a .live = true) : b.kind sv a = .metered := by
  rw [Bank.kind, h, Bool.not_true, if_neg Bool.false_ne_true]
  exact if_pos ⟨hbasis, hlive⟩

theorem Bank.kind_of_estimated (h : b.settled a = true)
    (hlive : ¬ ((b.accounts.get a).settings.basis.get sv = .metered ∧ b.ownSlotIs sv a .live = true)) :
    b.kind sv a = .estimated := by
  rw [Bank.kind, h, Bool.not_true, if_neg Bool.false_ne_true]
  exact if_neg hlive

/-! ## Estimates (R70, R71) -/

theorem Bank.estimateOf_of_ne (h : b.kind sv a ≠ .estimated) : b.estimateOf rs sv a = none := by
  unfold Bank.estimateOf
  cases hk : b.kind sv a with
  | estimated => exact absurd hk h
  | metered => rfl
  | redirected => rfl

theorem Bank.estimateOf_of_estimated (h : b.kind sv a = .estimated) :
    b.estimateOf rs sv a = some (b.estimate rs sv a) := by
  simp only [Bank.estimateOf, h]

theorem Bank.estimate_runtime {c : Nat} (hc : b.openSeconds sv a = some c)
    (hpower : (b.accounts.get a).settings.power.get sv ≠ 0) : b.estimate rs sv a =
      runtimeEstimate c ((b.accounts.get a).settings.power.get sv) (readingOf rs sv a).carry := by
  simp only [Bank.estimate, hc]
  exact if_pos hpower

theorem Bank.estimate_fallback (h : b.openSeconds sv a = none ∨ (b.accounts.get a).settings.power.get sv = 0) :
    b.estimate rs sv a = fallbackEstimate (readingOf rs sv a) := by
  unfold Bank.estimate
  cases hc : b.openSeconds sv a with
  | none => rfl
  | some c =>
    rw [hc] at h
    exact if_neg fun hpower => h.elim (fun h => nomatch h) hpower

theorem historyMean_eq (h : List Nat) : historyMean h = h.sum / h.length := by
  cases h with
  | nil => rfl
  | cons e es => rfl

/-! ## The results of an account service -/

/-- What the results hold of the estimate. -/
theorem Bank.serviceResult_of_estimate {e : Option Estimate} (h : b.estimateOf rs sv a = e) :
    (b.serviceResult rs a sv).estimate = e.map Estimate.own ∧
    (b.serviceResult rs a sv).newCarry = (e.map Estimate.carry).getD (readingOf rs sv a).carry ∧
    (b.serviceResult rs a sv).noBasis = (e.map Estimate.noBasis).getD false ∧
    (b.serviceResult rs a sv).balanceAdd =
      if b.ownSlotIs sv a .late then (e.map Estimate.energy).getD 0 else 0 := by
  subst h
  exact ⟨rfl, rfl, rfl, rfl⟩

/-- What the results hold of the no-advance check. -/
theorem Bank.serviceResult_of_check {streak : Nat} {trips : Bool} (h : b.check rs sv a = (streak, trips)) :
    (b.serviceResult rs a sv).newStreak = streak ∧
    (b.serviceResult rs a sv).trip = if trips then b.ownSlot sv a else none := by
  have hstreak : (b.serviceResult rs a sv).newStreak = (b.check rs sv a).1 := rfl
  have htrip : (b.serviceResult rs a sv).trip = if (b.check rs sv a).2 then b.ownSlot sv a else none := rfl
  rw [hstreak, htrip, h]
  exact ⟨rfl, rfl⟩

theorem Bank.check_of_ne (h : b.kind sv a ≠ .metered) : b.check rs sv a = ((readingOf rs sv a).streak, false) := by
  unfold Bank.check
  cases hk : b.kind sv a with
  | metered => exact absurd hk h
  | estimated => rfl
  | redirected => rfl

theorem Bank.check_of_metered (h : b.kind sv a = .metered) : b.check rs sv a =
    b.noAdvance.check (b.openSeconds sv a) (b.ownEnergy sv a) (readingOf rs sv a).streak := by
  simp only [Bank.check, h]

theorem Bank.serviceResult_of_passed {streak : Nat} (h : b.check rs sv a = (streak, false)) :
    (b.serviceResult rs a sv).newStreak = streak ∧ (b.serviceResult rs a sv).trip = none :=
  Bank.serviceResult_of_check h

end Service

/-! ## The apportionment (R97 to R102) -/

section Apportionment

variable (b : Bank) (rs : List (PerService Reading)) (sv : Service)

theorem Bank.weight_eq (p : Pool) (a : AccountNo) : b.weight p a = if (b.accounts.get a).recorded = .joined then 0
    else if p = Pool.retail then (b.accounts.get a).settings.retailWeight
    else (b.accounts.get a).settings.officeWeight := by
  have hjoined : b.joined a = true ↔ (b.accounts.get a).recorded = .joined := decide_eq_true_iff
  cases p <;> exact ite_congr_iff hjoined rfl rfl

theorem Bank.lossPart_eq (a : AccountNo) : b.lossPart rs sv a =
    if ((b.accounts.get a).recorded = .occupied ∨ (b.accounts.get a).recorded = .closing) ∧
        (b.accounts.get a).settings.lossShare = true
      then (b.serviceResult rs a sv).metered + (b.serviceResult rs a sv).estimated else 0 :=
  ite_congr_iff (by rw [Bool.and_eq_true, b.standing_iff]) rfl rfl

theorem Bank.creditTo_of_standing {b : Bank} {a : AccountNo} (h : b.standing a = true) : b.creditTo a = a := if_pos h

theorem Bank.shareTo_of_standing {b : Bank} {a : AccountNo} (h : b.standing a = true) : b.shareTo a = a := if_pos h

theorem Bank.estimateCredited_iff {b : Bank} {a : AccountNo} : b.estimateCredited a = true ↔
    ∃ y tv, b.creditTo y = a ∧ b.kind tv y = .estimated := by
  simp only [Bank.estimateCredited, List.any_eq_true, List.mem_finRange, true_and, Bool.and_eq_true, Bool.or_eq_true,
    decide_eq_true_eq]
  refine exists_congr fun y => ⟨?_, ?_⟩
  · rintro ⟨hy, hkind | hkind⟩
    · exact ⟨.heating, hy, hkind⟩
    · exact ⟨.cooling, hy, hkind⟩
  · rintro ⟨tv, hy, hkind⟩
    cases tv with
    | heating => exact ⟨hy, .inl hkind⟩
    | cooling => exact ⟨hy, .inr hkind⟩

end Apportionment

/-- The results of one account service, as O41 has them. -/
theorem serviceResult_spec (b : Bank) (rs : List (PerService Reading)) (sv : Service) (a : AccountNo) :
    let x := b.serviceResult rs a sv
    let k := b.accounts.get a
    let r := readingOf rs sv a
    let ownState := (k.meterPos.get sv).map fun m => (b.slots.get m).state
    let seconds := b.openSeconds sv a
    let power := k.settings.power.get sv
    (x.kind ≠ .estimated → x.estimate = none ∧ x.newCarry = r.carry ∧ x.noBasis = false ∧ x.balanceAdd = 0) ∧
    (x.kind = .estimated →
      (∀ c, seconds = some c → power ≠ 0 →
        x.estimate = some ⟨.runtime, (c * power + r.carry) / 3600⟩ ∧
        x.newCarry = (c * power + r.carry) % 3600 ∧ x.noBasis = false) ∧
      (seconds = none ∨ power = 0 →
        x.estimate = some ⟨.fallback, r.history.sum / r.history.length⟩ ∧ x.newCarry = r.carry ∧
        (x.noBasis = true ↔ r.history = [])) ∧
      ∀ e, x.estimate = some e → x.balanceAdd = if ownState = some .late then e.energy else 0) := by
  intro x k r ownState seconds power
  refine ⟨fun hkind => ?_, fun hkind => ?_⟩
  · obtain ⟨hestimate, hcarry, hbasis, hadd⟩ := Bank.serviceResult_of_estimate (Bank.estimateOf_of_ne (rs := rs) hkind)
    exact ⟨hestimate, hcarry, hbasis, hadd.trans (ite_self 0)⟩
  · obtain ⟨hestimate, hcarry, hbasis, hadd⟩ :=
      Bank.serviceResult_of_estimate (Bank.estimateOf_of_estimated (rs := rs) hkind)
    refine ⟨fun c hc hpower => ?_, fun hno => ?_, fun e he => ?_⟩
    · rw [Bank.estimate_runtime hc hpower] at hestimate hcarry hbasis
      exact ⟨hestimate, hcarry, hbasis⟩
    · rw [Bank.estimate_fallback hno] at hestimate hcarry hbasis
      refine ⟨hestimate.trans ?_, hcarry, ?_⟩
      · exact congrArg (fun n => some (OwnEstimate.mk .fallback n)) (historyMean_eq r.history)
      · rw [hbasis]
        exact List.isEmpty_iff
    · have henergy : e = (b.estimate rs sv a).own := Option.some.inj (he.symm.trans hestimate)
      refine hadd.trans (ite_congr_iff Bank.ownSlotIs_iff ?_ rfl)
      rw [henergy]
      rfl

/-- The no-advance check of one account service, as O41 has it. -/
theorem serviceResult_checked (b : Bank) (rs : List (PerService Reading)) (sv : Service) (a : AccountNo) :
    let x := b.serviceResult rs a sv
    let streak := (readingOf rs sv a).streak
    let checked := b.noAdvance.applies (b.openSeconds sv a)
    let energy := b.ownEnergy sv a
    let raised := min 15 (streak + 1)
    (x.kind ≠ .metered → x.entry = none ∧ x.newStreak = streak ∧ x.trip = none) ∧
    (x.kind = .metered → x.entry = some energy ∧
      (¬ checked → x.newStreak = streak ∧ x.trip = none) ∧
      (checked → b.noAdvance.advanceMin ≤ energy → x.newStreak = 0 ∧ x.trip = none) ∧
      (checked → energy < b.noAdvance.advanceMin → raised < b.noAdvance.window →
        x.newStreak = raised ∧ x.trip = none) ∧
      (checked → energy < b.noAdvance.advanceMin → b.noAdvance.window ≤ raised →
        x.newStreak = 0 ∧ x.trip = b.ownSlot sv a)) := by
  intro x streak checked energy raised
  refine ⟨fun hkind => ⟨if_neg hkind, Bank.serviceResult_of_passed (Bank.check_of_ne hkind)⟩,
    fun hkind => ⟨if_pos hkind, fun hno => ?_, fun hyes henergy => ?_, fun hyes henergy hraised => ?_,
      fun hyes henergy hraised => ?_⟩⟩
  · exact Bank.serviceResult_of_passed ((Bank.check_of_metered hkind).trans (NoAdvance.check_of_not_applies hno))
  · refine Bank.serviceResult_of_passed ((Bank.check_of_metered hkind).trans ?_)
    rw [NoAdvance.check_of_applies hyes, if_neg (Nat.not_lt.2 henergy)]
  · refine Bank.serviceResult_of_passed ((Bank.check_of_metered hkind).trans ?_)
    rw [NoAdvance.check_of_applies hyes, if_pos henergy, if_neg (Nat.not_le.2 hraised)]
  · refine Bank.serviceResult_of_check (trips := true) ((Bank.check_of_metered hkind).trans ?_)
    rw [NoAdvance.check_of_applies hyes, if_pos henergy, if_pos hraised]

/-- Settles O41: the results of one account service, then each sum of the apportionment. -/
theorem serviceResults : Obligations.ServiceResults := by
  refine ⟨fun b rs sv a => ?_, fun b rs sv => ?_⟩
  · intro x k r own ownState energy seconds power stands partOf live checked raised f
    have hx : x = b.serviceResult rs a sv := b.results_get rs sv a
    have hf : f = b.figures rs sv := b.results_figures rs sv
    have hlive : live ↔ k.settings.basis.get sv = .metered ∧ b.ownSlotIs sv a .live = true :=
      and_congr_right fun _ => Bank.ownSlotIs_iff.symm
    obtain ⟨hcharged, hestimated⟩ := serviceResult_spec b rs sv a
    obtain ⟨huncounted, hcounted⟩ := serviceResult_checked b rs sv a
    rw [hx, hf]
    refine ⟨⟨fun hno => ?_, fun hpart h => ?_, fun hpart h => ?_⟩, hcharged, hestimated, huncounted, hcounted, rfl, ?_, rfl⟩
    · exact Bank.kind_of_redirected fun h => hno (Bank.settled_iff.1 h)
    · obtain ⟨hbasis, hslot⟩ := hlive.1 h
      exact Bank.kind_of_metered (Bank.settled_iff.2 hpart) hbasis hslot
    · exact Bank.kind_of_estimated (Bank.settled_iff.2 hpart) fun hyes => h (hlive.2 hyes)
    · rfl
  · intro x f recorded settings stands pairOf own owner gathered metered estimated common weight poolShare poolRest part
      lossShare lossRest
    have hx (a : AccountNo) : x a = b.serviceResult rs a sv := b.results_get rs sv a
    have hf : f = b.figures rs sv := b.results_figures rs sv
    have hmetered : b.meteredIn sv = metered := by
      funext a
      simp only [metered, hx]
      exact b.meteredIn_eq sv a
    have hestimated : b.estimatedIn rs sv = estimated := by
      funext a
      simp only [estimated, hx]
      exact b.estimatedIn_eq rs sv a
    have hweight : b.weight = weight := funext fun p => funext fun a => b.weight_eq p a
    have hshare (p : Pool) : b.poolShare sv p = poolShare p := by
      funext a
      rw [b.poolShare_eq, Bank.weightSum, hweight]
      rfl
    have hrest (p : Pool) : b.poolRemainder sv p = poolRest p := by
      rw [Bank.poolRemainder, hshare]
      rfl
    have hpart : b.lossPart rs sv = part := by
      funext a
      simp only [part, hx]
      exact b.lossPart_eq rs sv a
    have hloss : b.lossShare rs sv = lossShare := by
      funext a
      rw [b.lossShare_eq, Bank.lossBase, hpart]
      simp only [lossShare, hf]
      rfl
    have hlossRest : b.lossRemainder rs sv = lossRest := by
      rw [Bank.lossRemainder, hloss]
      simp only [lossRest, hf]
      rfl
    have hstands (a : AccountNo) : b.standing a = true ↔ stands a := b.standing_iff a
    have hfalls {a : AccountNo} (h : ¬ stands a) : b.standing a = false := by
      rw [← Bool.not_eq_true, hstands]
      exact h
    have hjoined {a : AccountNo} (h : recorded a = .joined) : ¬ stands a := fun hs =>
      hs.elim (fun hs => nomatch h.symm.trans hs) fun hs => nomatch h.symm.trans hs
    refine ⟨fun a h => ⟨?_, ?_⟩, fun a h => ?_, fun a l hrecorded hpair hl => ?_, fun a h hno => ?_, fun a => ?_, fun a => ?_,
      fun a => ?_, fun a => ?_, fun p => ⟨rfl, hrest p, fun a => ?_⟩, fun a => ⟨?_, ?_⟩, hlossRest, ?_, ?_, ?_, ?_, ?_, ?_,
      ?_, ?_, ?_, ?_, fun a => ?_⟩
    · exact Bank.creditTo_of_standing ((hstands a).2 h)
    · exact Bank.shareTo_of_standing ((hstands a).2 h)
    · exact Bank.shareTo_of_not_standing (hfalls h)
    · have hlower : lowerOf a = some l := (lowerOf_eq_some a l).2 hpair
      refine Bank.creditTo_of_extendsLower (hfalls (hjoined hrecorded)) hlower ?_
      rw [Bank.extendsLower_of_joined hrecorded hlower, hstands]
      exact hl
    · refine Bank.creditTo_of_not_extendsLower (hfalls h) ?_
      rw [← Bool.not_eq_true, b.extendsLower_iff]
      rintro ⟨hrecorded, l, hlower, hl⟩
      exact hno l hrecorded ((lowerOf_eq_some a l).1 hlower) ((hstands l).1 hl)
    · rw [hx, ← hmetered]
      rfl
    · rw [hx, ← hestimated]
      rfl
    · rw [hx, ← hrest, ← hrest, ← hshare, ← hshare]
      rfl
    · rw [hx, ← hloss, ← hlossRest]
      rfl
    · rw [hshare]
    · rw [hpart]
    · rw [hloss]
    · rw [hf]; rfl
    · rw [hf]; rfl
    · rw [hf]; rfl
    · rw [hf]; rfl
    · rw [hf, ← hmetered]; rfl
    · rw [hf, ← hestimated]; rfl
    · rw [hf]; rfl
    · rw [hf]; rfl
    · rw [hf]; rfl
    · rw [hf, ← hrest, ← hrest, ← hlossRest]; rfl
    · rw [b.results_credited rs a, Bank.estimateCredited_iff]
      simp only [b.results_get rs]
      rfl

end Sys2Proof.Machine
end

section
/-!
PROOF. Request frames and requests (O60): the bytes of a number read back as the number, and each code with its body.
-/

namespace Sys2Proof

theorem congr_two {α β γ : Type} (f : α → β → γ) {x x' : α} {y y' : β} (hx : x = x') (hy : y = y') : f x y = f x' y' :=
  congr (congrArg f hx) hy

/-! ## Numbers in a frame (R192) -/

/-- A bit of one byte of a number. -/
theorem byteOf_getLsbD {w : Nat} (x : BitVec w) (k i : Nat) :
    (BitVec.ofNat 8 (x.toNat >>> k)).getLsbD i = (decide (i < 8) && x.getLsbD (k + i)) := by
  rw [BitVec.getLsbD_ofNat, Nat.testBit_shiftRight, BitVec.testBit_toNat]

theorem half_getLsbD (a b : Byte) (i : Nat) : (half a b).getLsbD i = if i < 8 then b.getLsbD i else a.getLsbD (i - 8) := by
  rw [half, BitVec.getLsbD_append]

theorem word_getLsbD (a b c d : Byte) (i : Nat) : (word a b c d).getLsbD i =
    if i < 16 then (half c d).getLsbD i else (half a b).getLsbD (i - 16) := by
  rw [word, BitVec.getLsbD_append]

theorem half_of_bytes (x : Half) : half (BitVec.ofNat 8 (x.toNat >>> 8)) (BitVec.ofNat 8 (x.toNat >>> 0)) = x := by
  refine BitVec.eq_of_getLsbD_eq fun i hi => ?_
  rw [half_getLsbD, byteOf_getLsbD, byteOf_getLsbD]
  by_cases h : i < 8
  · simp [h]
  · have hi8 : i - 8 < 8 := by omega
    have hsum : 8 + (i - 8) = i := by omega
    simp [h, hi8, hsum]

/-- A number written as two bytes and read back. -/
def reread (x : Half) : Half := half (BitVec.ofNat 8 (x.toNat >>> 8)) (BitVec.ofNat 8 (x.toNat >>> 0))

theorem reread_eq (x : Half) : reread x = x := half_of_bytes x

theorem word_of_bytes (x : Word) : word (BitVec.ofNat 8 (x.toNat >>> 24)) (BitVec.ofNat 8 (x.toNat >>> 16))
    (BitVec.ofNat 8 (x.toNat >>> 8)) (BitVec.ofNat 8 (x.toNat >>> 0)) = x := by
  refine BitVec.eq_of_getLsbD_eq fun i hi => ?_
  rw [word_getLsbD, half_getLsbD, half_getLsbD]
  simp only [byteOf_getLsbD]
  by_cases h16 : i < 16
  · by_cases h8 : i < 8
    · simp [h16, h8]
    · have hi8 : i - 8 < 8 := by omega
      have hsum : 8 + (i - 8) = i := by omega
      simp [h16, h8, hi8, hsum]
  · by_cases h24 : i - 16 < 8
    · have hsum : 16 + (i - 16) = i := by omega
      simp [h16, h24, hsum]
    · have hi24 : i - 16 - 8 < 8 := by omega
      have hsum : 24 + (i - 16 - 8) = i := by omega
      simp [h16, h24, hi24, hsum]

theorem bigEndian_half (a b : Byte) : bigEndian 2 (half a b).toNat = [a, b] := by
  have ha : BitVec.ofNat 8 ((half a b).toNat >>> 8) = a := by
    refine BitVec.eq_of_getLsbD_eq fun i hi => ?_
    rw [byteOf_getLsbD, half_getLsbD, if_neg (by omega), Nat.add_sub_cancel_left, decide_eq_true hi, Bool.true_and]
  have hb : BitVec.ofNat 8 ((half a b).toNat >>> 0) = b := by
    refine BitVec.eq_of_getLsbD_eq fun i hi => ?_
    rw [byteOf_getLsbD, half_getLsbD, if_pos (by omega), Nat.zero_add, decide_eq_true hi, Bool.true_and]
  exact congr_two (fun x y => [x, y]) ha hb

theorem bigEndian_word (a b c d : Byte) : bigEndian 4 (word a b c d).toNat = [a, b, c, d] := by
  have hhigh (k i : Nat) (hk : 16 ≤ k) (hi : i < 8) :
      (BitVec.ofNat 8 ((word a b c d).toNat >>> k)).getLsbD i = (half a b).getLsbD (k - 16 + i) := by
    rw [byteOf_getLsbD, word_getLsbD, if_neg (by omega), decide_eq_true hi, Bool.true_and]
    congr 1
    omega
  have hlow (k i : Nat) (hk : k ≤ 8) (hi : i < 8) :
      (BitVec.ofNat 8 ((word a b c d).toNat >>> k)).getLsbD i = (half c d).getLsbD (k + i) := by
    rw [byteOf_getLsbD, word_getLsbD, if_pos (by omega), decide_eq_true hi, Bool.true_and]
  have ha : BitVec.ofNat 8 ((word a b c d).toNat >>> 24) = a := by
    refine BitVec.eq_of_getLsbD_eq fun i hi => ?_
    rw [hhigh 24 i (by decide) hi, half_getLsbD, if_neg (by omega)]
    congr 1
    omega
  have hb : BitVec.ofNat 8 ((word a b c d).toNat >>> 16) = b := by
    refine BitVec.eq_of_getLsbD_eq fun i hi => ?_
    rw [hhigh 16 i (by decide) hi, half_getLsbD, if_pos (by omega), Nat.sub_self, Nat.zero_add]
  have hc : BitVec.ofNat 8 ((word a b c d).toNat >>> 8) = c := by
    refine BitVec.eq_of_getLsbD_eq fun i hi => ?_
    rw [hlow 8 i (by decide) hi, half_getLsbD, if_neg (by omega), Nat.add_sub_cancel_left]
  have hd : BitVec.ofNat 8 ((word a b c d).toNat >>> 0) = d := by
    refine BitVec.eq_of_getLsbD_eq fun i hi => ?_
    rw [hlow 0 i (by decide) hi, half_getLsbD, if_pos (by omega), Nat.zero_add]
  exact congr_two List.cons ha (congr_two List.cons hb (congr_two (fun x y => [x, y]) hc hd))

/-! ## One code and its body (section 12.4) -/

/-- What is asked of a byte sequence: a good frame spells a request with those bytes, and any other spells none. -/
def FrameAgrees (p : Port) (levels : Half) (bytes : List Byte) : Prop :=
  (goodFrame bytes = true ∧ ∃ c, decodeFrame p levels bytes = some c ∧ c.requestBytes = bytes ∧ c.port = some p) ∨
  (goodFrame bytes = false ∧ decodeFrame p levels bytes = none)

section Codes

variable {p : Port} {levels : Half} {code : Byte} {n : Nat} {body : List Byte}

theorem FrameAgrees.read (c : Instr) (hlength : bodyLength code = some n) (hbody : body.length = n)
    (hdecode : decodeFrame p levels (code :: body) = some c) (hbytes : c.requestBytes = code :: body)
    (hport : c.port = some p) : FrameAgrees p levels (code :: body) := by
  refine .inl ⟨?_, c, hdecode, hbytes, hport⟩
  rw [goodFrame, hlength, hbody]
  exact decide_eq_true rfl

theorem FrameAgrees.unread (hlength : bodyLength code = some n) (hbody : body.length ≠ n)
    (hdecode : decodeFrame p levels (code :: body) = none) : FrameAgrees p levels (code :: body) := by
  refine .inr ⟨?_, hdecode⟩
  rw [goodFrame, hlength]
  exact decide_eq_false fun h => hbody (Option.some.inj h).symm

theorem FrameAgrees.undefined (hlength : bodyLength code = none) (hdecode : decodeFrame p levels (code :: body) = none) :
    FrameAgrees p levels (code :: body) := by
  refine .inr ⟨?_, hdecode⟩
  rw [goodFrame, hlength]
  rfl

/-- A code without a body. -/
theorem FrameAgrees.of_empty (c : Instr) (hlength : bodyLength code = some 0)
    (hdecode : decodeFrame p levels [code] = some c) (hbytes : c.requestBytes = [code]) (hport : c.port = some p)
    (hmore : ∀ a t, decodeFrame p levels (code :: a :: t) = none) (body : List Byte) :
    FrameAgrees p levels (code :: body) := by
  cases body with
  | nil => exact .read c hlength rfl hdecode hbytes hport
  | cons a t => exact .unread hlength (Nat.succ_ne_zero _) (hmore a t)

/-- A code with a body of one byte. -/
theorem FrameAgrees.of_single (c : Byte → Instr) (hlength : bodyLength code = some 1)
    (hdecode : ∀ a, decodeFrame p levels [code, a] = some (c a)) (hbytes : ∀ a, (c a).requestBytes = [code, a])
    (hport : ∀ a, (c a).port = some p) (hnone : decodeFrame p levels [code] = none)
    (hmore : ∀ a b t, decodeFrame p levels (code :: a :: b :: t) = none) (body : List Byte) :
    FrameAgrees p levels (code :: body) := by
  rcases body with _ | ⟨a, _ | ⟨b, t⟩⟩
  · exact .unread hlength (Nat.zero_ne_one) hnone
  · exact .read (c a) hlength rfl (hdecode a) (hbytes a) (hport a)
  · exact .unread hlength (fun h => Nat.succ_ne_zero _ (Nat.succ.inj h)) (hmore a b t)

theorem FrameAgrees.configureMeter : FrameAgrees p levels (0x10#8 :: body) := by
  have hlength : bodyLength 0x10#8 = some 9 := rfl
  rcases body with _ | ⟨slot, _ | ⟨address, _ | ⟨service, _ | ⟨scale, _ | ⟨a, _ | ⟨b, _ | ⟨c, _ | ⟨d, _ | ⟨late, _ |
      ⟨z, t⟩⟩⟩⟩⟩⟩⟩⟩⟩⟩
  case cons.cons.cons.cons.cons.cons.cons.cons.cons.nil =>
    exact .read (.configureMeter p slot address service scale (word a b c d) late) hlength rfl rfl
      (congrArg (fun x => [0x10#8, slot, address, service, scale] ++ x ++ [late]) (bigEndian_word a b c d)) rfl
  all_goals exact .unread hlength (by simp) rfl

theorem FrameAgrees.postPlantReading : FrameAgrees p levels (0x13#8 :: body) := by
  have hlength : bodyLength 0x13#8 = some 5 := rfl
  rcases body with _ | ⟨service, _ | ⟨a, _ | ⟨b, _ | ⟨c, _ | ⟨d, _ | ⟨z, t⟩⟩⟩⟩⟩⟩
  case cons.cons.cons.cons.cons.nil =>
    exact .read (.postPlantReading p service (word a b c d)) hlength rfl rfl
      (congrArg (fun x => [0x13#8, service] ++ x) (bigEndian_word a b c d)) rfl
  all_goals exact .unread hlength (by simp) rfl

theorem FrameAgrees.configurePlant : FrameAgrees p levels (0x15#8 :: body) := by
  have hlength : bodyLength 0x15#8 = some 2 := rfl
  rcases body with _ | ⟨service, _ | ⟨scale, _ | ⟨z, t⟩⟩⟩
  case cons.cons.nil =>
    exact .read (.configurePlant p service scale) hlength rfl rfl
      rfl rfl
  all_goals exact .unread hlength (by simp) rfl

theorem FrameAgrees.setRuntimeLine : FrameAgrees p levels (0x16#8 :: body) := by
  have hlength : bodyLength 0x16#8 = some 3 := rfl
  rcases body with _ | ⟨line, _ | ⟨enable, _ | ⟨polarity, _ | ⟨z, t⟩⟩⟩⟩
  case cons.cons.cons.nil =>
    exact .read (.setRuntimeLine p line enable polarity) hlength rfl rfl
      rfl rfl
  all_goals exact .unread hlength (by simp) rfl

theorem FrameAgrees.setNoAdvance : FrameAgrees p levels (0x17#8 :: body) := by
  have hlength : bodyLength 0x17#8 = some 5 := rfl
  rcases body with _ | ⟨a, _ | ⟨b, _ | ⟨c, _ | ⟨d, _ | ⟨window, _ | ⟨z, t⟩⟩⟩⟩⟩⟩
  case cons.cons.cons.cons.cons.nil =>
    exact .read (.setNoAdvance p (half a b) (half c d) window) hlength rfl rfl
      (congr_two (fun x y => 0x17#8 :: x ++ y ++ [window]) (bigEndian_half a b) (bigEndian_half c d)) rfl
  all_goals exact .unread hlength (by simp) rfl

theorem FrameAgrees.setTolerance : FrameAgrees p levels (0x1A#8 :: body) := by
  have hlength : bodyLength 0x1A#8 = some 2 := rfl
  rcases body with _ | ⟨a, _ | ⟨b, _ | ⟨z, t⟩⟩⟩
  case cons.cons.nil =>
    exact .read (.setTolerance p (half a b)) hlength rfl rfl
      (congrArg (List.cons 0x1A#8) (bigEndian_half a b)) rfl
  all_goals exact .unread hlength (by simp) rfl

theorem FrameAgrees.moveIn : FrameAgrees p levels (0x20#8 :: body) := by
  have hlength : bodyLength 0x20#8 = some 5 := rfl
  rcases body with _ | ⟨account, _ | ⟨a, _ | ⟨b, _ | ⟨c, _ | ⟨d, _ | ⟨z, t⟩⟩⟩⟩⟩⟩
  case cons.cons.cons.cons.cons.nil =>
    exact .read (.moveIn p account (word a b c d)) hlength rfl rfl
      (congrArg (fun x => [0x20#8, account] ++ x) (bigEndian_word a b c d)) rfl
  all_goals exact .unread hlength (by simp) rfl

theorem FrameAgrees.setAccount : FrameAgrees p levels (0x25#8 :: body) := by
  have hlength : bodyLength 0x25#8 = some 14 := rfl
  rcases body with _ | ⟨account, _ | ⟨hb, _ | ⟨hp1, _ | ⟨hp0, _ | ⟨hl, _ | ⟨cb, _ | ⟨cp1, _ | ⟨cp0, _ | ⟨cl, _ | ⟨r1,
      _ | ⟨r0, _ | ⟨o1, _ | ⟨o0, _ | ⟨share, _ | ⟨z, t⟩⟩⟩⟩⟩⟩⟩⟩⟩⟩⟩⟩⟩⟩⟩
  case cons.cons.cons.cons.cons.cons.cons.cons.cons.cons.cons.cons.cons.cons.nil =>
    exact .read (.setAccount p account
        { basis := ⟨hb, cb⟩, power := ⟨half hp1 hp0, half cp1 cp0⟩, line := ⟨hl, cl⟩
          retailWeight := half r1 r0, officeWeight := half o1 o0, lossShare := share }) hlength rfl rfl
      (by simp only [Instr.requestBytes, SettingsBlock.bytes, bigEndian_half]; rfl) rfl
  all_goals exact .unread hlength (by simp) rfl

theorem FrameAgrees.assignMeter : FrameAgrees p levels (0x26#8 :: body) := by
  have hlength : bodyLength 0x26#8 = some 3 := rfl
  rcases body with _ | ⟨slot, _ | ⟨kind, _ | ⟨number, _ | ⟨z, t⟩⟩⟩⟩
  case cons.cons.cons.nil =>
    exact .read (.assignMeter p slot kind number) hlength rfl rfl
      rfl rfl
  all_goals exact .unread hlength (by simp) rfl

theorem FrameAgrees.setPrices : FrameAgrees p levels (0x28#8 :: body) := by
  have hlength : bodyLength 0x28#8 = some 16 := rfl
  rcases body with _ | ⟨a1, _ | ⟨a0, _ | ⟨b1, _ | ⟨b0, _ | ⟨c1, _ | ⟨c0, _ | ⟨d1, _ | ⟨d0, _ | ⟨e1, _ | ⟨e0, _ | ⟨f1,
      _ | ⟨f0, _ | ⟨g1, _ | ⟨g0, _ | ⟨h1, _ | ⟨h0, _ | ⟨z, t⟩⟩⟩⟩⟩⟩⟩⟩⟩⟩⟩⟩⟩⟩⟩⟩⟩
  case cons.cons.cons.cons.cons.cons.cons.cons.cons.cons.cons.cons.cons.cons.cons.cons.nil =>
    exact .read (.setPrices p ⟨⟨half a1 a0, half b1 b0, half c1 c0, half d1 d0⟩,
        ⟨half e1 e0, half f1 f0, half g1 g0, half h1 h0⟩⟩) hlength rfl rfl
      (by simp only [Instr.requestBytes, bigEndian_half]; rfl) rfl
  all_goals exact .unread hlength (by simp) rfl

theorem FrameAgrees.setReportMask : FrameAgrees p levels (0x30#8 :: body) := by
  have hlength : bodyLength 0x30#8 = some 4 := rfl
  rcases body with _ | ⟨a, _ | ⟨b, _ | ⟨c, _ | ⟨d, _ | ⟨z, t⟩⟩⟩⟩⟩
  case cons.cons.cons.cons.nil =>
    exact .read (.setReportMask p (word a b c d)) hlength rfl rfl
      (congrArg (List.cons 0x30#8) (bigEndian_word a b c d)) rfl
  all_goals exact .unread hlength (by simp) rfl

theorem FrameAgrees.ackNotices : FrameAgrees p levels (0x32#8 :: body) := by
  have hlength : bodyLength 0x32#8 = some 5 := rfl
  rcases body with _ | ⟨a, _ | ⟨b, _ | ⟨c, _ | ⟨d, _ | ⟨clear, _ | ⟨z, t⟩⟩⟩⟩⟩⟩
  case cons.cons.cons.cons.cons.nil =>
    exact .read (.ackNotices p (word a b c d) clear) hlength rfl rfl
      (congrArg (fun x => 0x32#8 :: x ++ [clear]) (bigEndian_word a b c d)) rfl
  all_goals exact .unread hlength (by simp) rfl

theorem FrameAgrees.streamAccounts : FrameAgrees p levels (0x41#8 :: body) := by
  have hlength : bodyLength 0x41#8 = some 2 := rfl
  rcases body with _ | ⟨first, _ | ⟨count, _ | ⟨z, t⟩⟩⟩
  case cons.cons.nil =>
    exact .read (.streamAccounts p first count) hlength rfl rfl
      rfl rfl
  all_goals exact .unread hlength (by simp) rfl

/-- The Plant Port's codes. -/
theorem FrameAgrees.plantCodes (hlo : 16 ≤ n) (hhi : n ≤ 28) : FrameAgrees p levels (BitVec.ofNat 8 n :: body) := by
  obtain ⟨i, rfl⟩ := Nat.exists_eq_add_of_le hlo
  match i, hhi with
  | 0, _ => exact .configureMeter
  | 1, _ => exact .of_single (.retireMeter p) rfl (fun _ => rfl) (fun _ => rfl) (fun _ => rfl) rfl (fun _ _ _ => rfl) body
  | 2, _ => exact .of_single (.reReferenceMeter p) rfl (fun _ => rfl) (fun _ => rfl) (fun _ => rfl) rfl (fun _ _ _ => rfl) body
  | 3, _ => exact .postPlantReading
  | 4, _ => exact .of_single (.reReferencePlant p) rfl (fun _ => rfl) (fun _ => rfl) (fun _ => rfl) rfl (fun _ _ _ => rfl) body
  | 5, _ => exact .configurePlant
  | 6, _ => exact .setRuntimeLine
  | 7, _ => exact .setNoAdvance
  | 8, _ => exact .of_single (.setBand p) rfl (fun _ => rfl) (fun _ => rfl) (fun _ => rfl) rfl (fun _ _ _ => rfl) body
  | 9, _ => exact .of_single (.setIntervalLength p) rfl (fun _ => rfl) (fun _ => rfl) (fun _ => rfl) rfl (fun _ _ _ => rfl) body
  | 10, _ => exact .setTolerance
  | 11, _ => exact .of_single (.setLineRate p) rfl (fun _ => rfl) (fun _ => rfl) (fun _ => rfl) rfl (fun _ _ _ => rfl) body
  | 12, _ => exact .of_empty (.mark p) rfl rfl rfl rfl (fun _ _ => rfl) body
  | i + 13, h => exact absurd h (by omega)

/-- The Billing Port's codes. -/
theorem FrameAgrees.billingCodes (hlo : 32 ≤ n) (hhi : n ≤ 44) : FrameAgrees p levels (BitVec.ofNat 8 n :: body) := by
  obtain ⟨i, rfl⟩ := Nat.exists_eq_add_of_le hlo
  match i, hhi with
  | 0, _ => exact .moveIn
  | 1, _ => exact .of_single (.moveOut p) rfl (fun _ => rfl) (fun _ => rfl) (fun _ => rfl) rfl (fun _ _ _ => rfl) body
  | 2, _ => exact .of_single (.cancelMove p) rfl (fun _ => rfl) (fun _ => rfl) (fun _ => rfl) rfl (fun _ _ _ => rfl) body
  | 3, _ => exact .of_single (.joinPair p) rfl (fun _ => rfl) (fun _ => rfl) (fun _ => rfl) rfl (fun _ _ _ => rfl) body
  | 4, _ => exact .of_single (.splitPair p) rfl (fun _ => rfl) (fun _ => rfl) (fun _ => rfl) rfl (fun _ _ _ => rfl) body
  | 5, _ => exact .setAccount
  | 6, _ => exact .assignMeter
  | 7, _ => exact .of_single (.unassignMeter p) rfl (fun _ => rfl) (fun _ => rfl) (fun _ => rfl) rfl (fun _ _ _ => rfl) body
  | 8, _ => exact .setPrices
  | 9, _ => exact .of_empty (.closePeriod p) rfl rfl rfl rfl (fun _ _ => rfl) body
  | 10, _ => exact .of_empty (.cancelClose p) rfl rfl rfl rfl (fun _ _ => rfl) body
  | 11, _ => exact .of_empty (.takeStatement p) rfl rfl rfl rfl (fun _ _ => rfl) body
  | 12, _ => exact .of_empty (.initialiseAccounts p) rfl rfl rfl rfl (fun _ _ => rfl) body
  | i + 13, h => exact absurd h (by omega)

/-- The codes of what each port owns for itself. -/
theorem FrameAgrees.ownCodes (hlo : 48 ≤ n) (hhi : n ≤ 50) : FrameAgrees p levels (BitVec.ofNat 8 n :: body) := by
  obtain ⟨i, rfl⟩ := Nat.exists_eq_add_of_le hlo
  match i, hhi with
  | 0, _ => exact .setReportMask
  | 1, _ => exact .of_single (.setAtnEnables p) rfl (fun _ => rfl) (fun _ => rfl) (fun _ => rfl) rfl (fun _ _ _ => rfl) body
  | 2, _ => exact .ackNotices
  | i + 3, h => exact absurd h (by omega)

/-- The reading codes. -/
theorem FrameAgrees.readCodes (hlo : 64 ≤ n) (hhi : n ≤ 75) : FrameAgrees p levels (BitVec.ofNat 8 n :: body) := by
  obtain ⟨i, rfl⟩ := Nat.exists_eq_add_of_le hlo
  match i, hhi with
  | 0, _ => exact .of_single (.readAccount p) rfl (fun _ => rfl) (fun _ => rfl) (fun _ => rfl) rfl (fun _ _ _ => rfl) body
  | 1, _ => exact .streamAccounts
  | 2, _ => exact .of_empty (.readClock p) rfl rfl rfl rfl (fun _ _ => rfl) body
  | 3, _ => exact .of_single (.readMeter p) rfl (fun _ => rfl) (fun _ => rfl) (fun _ => rfl) rfl (fun _ _ _ => rfl) body
  | 4, _ => exact .of_single (.readPlant p) rfl (fun _ => rfl) (fun _ => rfl) (fun _ => rfl) rfl (fun _ _ _ => rfl) body
  | 5, _ => exact .of_empty (.readLine p) rfl rfl rfl rfl (fun _ _ => rfl) body
  | 6, _ => exact .of_empty (.readRuntime p levels) rfl rfl rfl rfl (fun _ _ => rfl) body
  | 7, _ => exact .of_empty (.readTariff p) rfl rfl rfl rfl (fun _ _ => rfl) body
  | 8, _ => exact .of_empty (.readStatement p) rfl rfl rfl rfl (fun _ _ => rfl) body
  | 9, _ => exact .of_single (.readIntervalSummary p) rfl (fun _ => rfl) (fun _ => rfl) (fun _ => rfl) rfl (fun _ _ _ => rfl) body
  | 10, _ => exact .of_empty (.readFaultMap p) rfl rfl rfl rfl (fun _ _ => rfl) body
  | 11, _ => exact .of_single (.readFaultEntry p) rfl (fun _ => rfl) (fun _ => rfl) (fun _ => rfl) rfl (fun _ _ _ => rfl) body
  | i + 12, h => exact absurd h (by omega)

/-- The codes that name no request, by where they stand. -/
theorem FrameAgrees.codesBefore (hhi : n ≤ 15) : FrameAgrees p levels (BitVec.ofNat 8 n :: body) := by
  match n, hhi with
  | 0, _ | 1, _ | 2, _ | 3, _ | 4, _ | 5, _ | 6, _ | 7, _ | 8, _ | 9, _ | 10, _ | 11, _ | 12, _ | 13, _ | 14, _ | 15, _ => exact .undefined rfl rfl
  | i + 16, h => exact absurd h (by omega)

theorem FrameAgrees.codesBeforeBilling (hlo : 29 ≤ n) (hhi : n ≤ 31) : FrameAgrees p levels (BitVec.ofNat 8 n :: body) := by
  obtain ⟨i, rfl⟩ := Nat.exists_eq_add_of_le hlo
  match i, hhi with
  | 0, _ | 1, _ | 2, _ => exact .undefined rfl rfl
  | i + 3, h => exact absurd h (by omega)

theorem FrameAgrees.codesBeforeOwn (hlo : 45 ≤ n) (hhi : n ≤ 47) : FrameAgrees p levels (BitVec.ofNat 8 n :: body) := by
  obtain ⟨i, rfl⟩ := Nat.exists_eq_add_of_le hlo
  match i, hhi with
  | 0, _ | 1, _ | 2, _ => exact .undefined rfl rfl
  | i + 3, h => exact absurd h (by omega)

theorem FrameAgrees.codesBeforeRead (hlo : 51 ≤ n) (hhi : n ≤ 63) : FrameAgrees p levels (BitVec.ofNat 8 n :: body) := by
  obtain ⟨i, rfl⟩ := Nat.exists_eq_add_of_le hlo
  match i, hhi with
  | 0, _ | 1, _ | 2, _ | 3, _ | 4, _ | 5, _ | 6, _ | 7, _ | 8, _ | 9, _ | 10, _ | 11, _ | 12, _ => exact .undefined rfl rfl
  | i + 13, h => exact absurd h (by omega)

theorem bodyLength_of_high (h : 76 ≤ code.toNat) : bodyLength code = none := by
  unfold bodyLength
  generalize code.toNat = n at h ⊢
  obtain ⟨k, rfl⟩ := Nat.exists_eq_add_of_le' h
  rfl

theorem decodeFrame_of_high (h : 76 ≤ code.toNat) : decodeFrame p levels (code :: body) = none := by
  dsimp only [decodeFrame]
  generalize code.toNat = n at h ⊢
  obtain ⟨k, rfl⟩ := Nat.exists_eq_add_of_le' h
  rfl

theorem FrameAgrees.otherCodes (h : n ≤ 15 ∨ (29 ≤ n ∧ n ≤ 31) ∨ (45 ≤ n ∧ n ≤ 47) ∨ (51 ≤ n ∧ n ≤ 63) ∨ (76 ≤ n ∧ n ≤ 255)) :
    FrameAgrees p levels (BitVec.ofNat 8 n :: body) := by
  rcases h with h | ⟨hlo, hhi⟩ | ⟨hlo, hhi⟩ | ⟨hlo, hhi⟩ | ⟨hlo, hhi⟩
  · exact .codesBefore h
  · exact .codesBeforeBilling hlo hhi
  · exact .codesBeforeOwn hlo hhi
  · exact .codesBeforeRead hlo hhi
  · have hhigh : 76 ≤ (BitVec.ofNat 8 n).toNat := by rw [Machine.toNat_ofNat_byte (by omega)]; exact hlo
    exact .undefined (bodyLength_of_high hhigh) (decodeFrame_of_high hhigh)

theorem frameAgrees (p : Port) (levels : Half) (bytes : List Byte) : FrameAgrees p levels bytes := by
  cases bytes with
  | nil => exact .inr ⟨rfl, rfl⟩
  | cons code body =>
    have hcode : BitVec.ofNat 8 code.toNat = code := BitVec.ofNat_toNat 8 code
    have hlt : code.toNat < 256 := code.isLt
    rw [← hcode]
    by_cases hplant : 16 ≤ code.toNat ∧ code.toNat ≤ 28
    · exact .plantCodes hplant.1 hplant.2
    by_cases hbilling : 32 ≤ code.toNat ∧ code.toNat ≤ 44
    · exact .billingCodes hbilling.1 hbilling.2
    by_cases hown : 48 ≤ code.toNat ∧ code.toNat ≤ 50
    · exact .ownCodes hown.1 hown.2
    by_cases hread : 64 ≤ code.toNat ∧ code.toNat ≤ 75
    · exact .readCodes hread.1 hread.2
    exact .otherCodes (by omega)

end Codes

/-- The frame of a request reads back as the request, the levels of READ RUNTIME given. -/
theorem decodeFrame_requestBytes {c : Instr} {p : Port} (hport : c.port = some p) (hbytes : c.requestBytes ≠ []) :
    ∃ levels, decodeFrame p levels c.requestBytes = some c := by
  cases c with
  | readRuntime q levels => cases hport; exact ⟨levels, rfl⟩
  | configureMeter q slot address service scale spike late =>
    cases hport
    exact ⟨0, congrArg (fun x => some (Instr.configureMeter p slot address service scale x late)) (word_of_bytes spike)⟩
  | postPlantReading q service count =>
    cases hport
    exact ⟨0, congrArg (fun x => some (Instr.postPlantReading p service x)) (word_of_bytes count)⟩
  | setNoAdvance q openMin advanceMin window =>
    cases hport
    exact ⟨0, congr_two (fun x y => some (Instr.setNoAdvance p x y window)) (half_of_bytes openMin)
      (half_of_bytes advanceMin)⟩
  | setTolerance q tolerance =>
    cases hport
    exact ⟨0, congrArg (fun x => some (Instr.setTolerance p x)) (half_of_bytes tolerance)⟩
  | moveIn q account tag =>
    cases hport
    exact ⟨0, congrArg (fun x => some (Instr.moveIn p account x)) (word_of_bytes tag)⟩
  | setReportMask q mask =>
    cases hport
    exact ⟨0, congrArg (fun x => some (Instr.setReportMask p x)) (word_of_bytes mask)⟩
  | ackNotices q selection clear =>
    cases hport
    exact ⟨0, congrArg (fun x => some (Instr.ackNotices p x clear)) (word_of_bytes selection)⟩
  | setAccount q account block =>
    cases hport
    obtain ⟨basis, ⟨hp, cp⟩, line, retail, office, share⟩ := block
    have hread : decodeFrame p 0 (Instr.setAccount p account ⟨basis, ⟨hp, cp⟩, line, retail, office, share⟩).requestBytes =
      some (.setAccount p account ⟨basis, ⟨reread hp, reread cp⟩, line, reread retail, reread office, share⟩) := rfl
    simp only [reread_eq] at hread
    exact ⟨0, hread⟩
  | setPrices q prices =>
    cases hport
    obtain ⟨⟨h0, h1, h2, h3⟩, ⟨c0, c1, c2, c3⟩⟩ := prices
    have hread : decodeFrame p 0 (Instr.setPrices p ⟨⟨h0, h1, h2, h3⟩, ⟨c0, c1, c2, c3⟩⟩).requestBytes =
      some (.setPrices p ⟨⟨reread h0, reread h1, reread h2, reread h3⟩,
        ⟨reread c0, reread c1, reread c2, reread c3⟩⟩) := rfl
    simp only [reread_eq] at hread
    exact ⟨0, hread⟩
  | transactionStart | transactionEnd | portFrameRaise | status | fetch | streamRecordPrepare => exact absurd rfl hbytes
  | meterLineCharacter | gapExpiry | drainCaptureEntry | applyHeldDeltas | tickEdge | timerExpiry | deferredBoundary
  | tickLossTimeout | computeRead | accountPost | closeoutVisit | periodStep | summaryWrite | vmainFall | vmainRise
  | holdExit | powerOnReset | backupLowChange | warmResetAssert | warmResetRelease | vmainFallBelowRunThreshold =>
    cases hport
  | _ => cases hport; exact ⟨0, rfl⟩

/-- Settles O60: the code and its body one by one. -/
theorem requestFramesRoundTrip : Obligations.RequestFramesRoundTrip := by
  refine ⟨fun c p hport hbytes => decodeFrame_requestBytes hport hbytes, fun p levels bytes => ?_,
    fun p levels bytes c hdecode => ?_⟩
  · rcases frameAgrees p levels bytes with ⟨hgood, c, hdecode, -⟩ | ⟨hgood, hdecode⟩ <;> rw [hgood, hdecode] <;> rfl
  · rcases frameAgrees p levels bytes with ⟨-, d, hd, hbytes, hport⟩ | ⟨-, hnone⟩
    · cases hdecode.symm.trans hd
      exact ⟨hbytes, hport⟩
    · cases hdecode.symm.trans hnone

end Sys2Proof
end

section
/-!
PROOF. The state after reset meets every law (O58).
-/

namespace Sys2Proof.Machine

theorem State.reset_account (a : AccountNo) :
    State.reset.account a = if a = 0 then Account.house else Account.initial := by
  have h : State.reset.account a = ((Table.fill 48 Account.initial).set 0 Account.house).get a := rfl
  rw [h, Table.get_set, Table.get_fill]
  exact ite_congr_iff eq_comm rfl rfl

theorem State.reset_meter (m : SlotNo) : State.reset.meter m = MeterSlot.initial := Table.get_fill _ _

theorem State.reset_meterPos (a : AccountNo) (sv : Service) : (State.reset.account a).meterPos.get sv = none := by
  rw [State.reset_account]
  split <;> cases sv <;> rfl

theorem State.reset_line (a : AccountNo) (sv : Service) :
    (State.reset.account a).inForce.line.get sv = none ∧ (State.reset.account a).nextLine sv = none := by
  rw [State.reset_account]
  split <;> cases sv <;> exact ⟨rfl, rfl⟩

theorem State.reset_settledThrough (a : AccountNo) : (State.reset.account a).settledThrough = 0 := by
  rw [State.reset_account]
  split <;> rfl

theorem State.reset_meterUniqueness : State.reset.meterUniqueness := by
  refine ⟨fun m k hm => ?_, fun a sv m => ?_, fun q => ⟨fun m => ?_, ?_, ?_⟩⟩
  · rw [State.reset_meter] at hm
    exact absurd rfl hm
  · rw [State.reset_meterPos, State.reset_meter]
    exact iff_of_false (fun h => nomatch h) fun h => nomatch h.1
  · rw [State.reset_meter]
    cases q <;> exact iff_of_false (fun h => nomatch h) fun h => nomatch h
  · cases q <;> exact List.nodup_nil
  · cases q <;> exact Nat.zero_le _

theorem State.reset_lineMapping : State.reset.lineMappingLaw :=
  ⟨fun a _ sv _ _ h => absurd ((State.reset_line a sv).1.symm.trans h) (fun h => nomatch h),
    fun a _ sv _ _ h => absurd ((State.reset_line a sv).2.symm.trans h) (fun h => nomatch h)⟩

theorem Faults.initial_get (i : Position) : Faults.initial.entries.get i = if i = 0 then
    some { seq := 0, cls := .storeLost, subject := .store, first := 0, last := 0, occurrences := 1, active := false
           notice := ⟨true, true⟩ }
    else none := by
  refine (Table.get_set _ _ _ _).trans ?_
  rw [Table.get_fill]
  exact ite_congr_iff eq_comm rfl rfl

theorem State.reset_counts : State.reset.countsBounded := by
  refine ⟨Nat.zero_le _, fun l => ?_⟩
  have hline : State.reset.lines.get l = RuntimeLine.initial := Table.get_fill _ _
  rw [hline]
  exact Nat.zero_le _

theorem State.reset_port (p : Port) : State.reset.port p = PortState.initial := by
  cases p <;> rfl

theorem State.reset_quiet : State.reset.quiet := by
  refine ⟨rfl, fun _ => ⟨rfl, rfl, rfl, fun p => ?_⟩⟩
  rw [State.reset_port]
  exact ⟨rfl, rfl, rfl, rfl, rfl, rfl, rfl, rfl⟩

/-- Settles O58. -/
theorem resetMeetsTheLaws : Obligations.ResetMeetsTheLaws := by
  obtain ⟨hunique, hproper⟩ := Faults.lawful_initial
  obtain ⟨htenancies, hbound⟩ := State.tenancyLaws_reset
  obtain ⟨hclock, hrecords⟩ := State.ranged_reset
  refine ⟨hunique, hproper, State.singleSettle_of_idle rfl, State.reset_settledThrough, State.reset_meterUniqueness,
    State.reset_lineMapping, htenancies, hbound, hclock, State.reset_counts, State.reset_quiet, fun p hp => ?_, hrecords,
    Faults.initial_get 0, fun i hi => (Faults.initial_get i).trans (if_neg hi), rfl, rfl, rfl, rfl⟩
  rw [State.reset_port] at hp
  exact absurd rfl hp

end Sys2Proof.Machine
end
